-- ==== Sys2Proof/Word.lean ====
section
/-! DEFINITION. The two widths of CORE: 8 bits of data and 16 bits of address (00_scope R6). -/

namespace Sys2Proof

/-- A data byte, unsigned unless a rule says otherwise (00_scope R6 and R8). -/
abbrev Byte := BitVec 8

/-- A 16-bit address or a 16-bit register (00_scope R6). -/
abbrev Word := BitVec 16

end Sys2Proof
end

