-- ==== Sys2Proof/Config.lean ====
section
/-! DEFINITION. What the spec leaves to the implementation (00_scope R7). An open parameter is an opaque constant:
nothing in Lean can evaluate it, so what is proved holds for each of its values. The range the spec gives a parameter is
kept by the definition that reads it. -/

namespace Sys2Proof

/-- Which of its two values NMI_VECTOR has: true for 0xFFFA, false for 0xFFFE (00_scope R7, D6). Log entry 3; safe. -/
opaque Config.nmiVectorSeparate : Bool

/-- Which of its two values PHP_PUSH_OR has: true for 0x30, false for 0x00 (00_scope R7, D7). Log entry 4; safe. -/
opaque Config.phpPushesBreak : Bool

/-- One less than ILLEGAL_BASE_CYCLES of each opcode value, which the spec puts in 1 to 8 (00_scope R7, D9).
Log entry 5; safe. -/
opaque Config.illegalExtraCycles : Byte → BitVec 3

/-- DESIGN CHOICE: what a byte of memory that the memory list does not name reads as (log entry 1, unsafe for the run from
State.reset only). The spec leaves the contents open: INITIAL_MEMORY (00_scope R7, D20). -/
def Config.unlistedByte : Byte := 0x00

end Sys2Proof
end

