-- ==== Sys2Proof/Syntax/Mode.lean ====
section
/-! DEFINITION. The addressing modes and the operation set, as names (41_addressing_modes, 40_execution_engine R103). -/

namespace Sys2Proof

/-- The 14 addressing-mode values, each with the operand its format carries (30_encoding R71, R74).
A 16-bit operand stands here combined, high byte first; the encoding puts its low byte first. -/
inductive Mode where
  /-- Implied (R121). -/
  | imp
  /-- Accumulator (R122). -/
  | acc
  /-- Immediate, the value (R123). -/
  | imm (v : Byte)
  /-- Zero-page, the address (R124). -/
  | zp (b : Byte)
  /-- Zero-page,X, the base (R125). -/
  | zpx (b : Byte)
  /-- Zero-page,Y, the base (R125). -/
  | zpy (b : Byte)
  /-- Absolute, the address (R126). -/
  | abs (w : Word)
  /-- Absolute,X, the base (R127). -/
  | abx (w : Word)
  /-- Absolute,Y, the base (R127). -/
  | aby (w : Word)
  /-- Indirect, the pointer (R129). -/
  | ind (w : Word)
  /-- Indexed-indirect (X), the zero-page base (R130). -/
  | izx (b : Byte)
  /-- Indirect-indexed (Y), the zero-page pointer (R131). -/
  | izy (b : Byte)
  /-- Relative, the signed offset (R128). -/
  | rel (o : Byte)
  /-- Illegal, the placeholder of the illegal entries (R134). -/
  | ill
  deriving DecidableEq, Repr

/-- The operation set: the 56 mnemonics and the illegal operation (40_execution_engine R103, 48_system R243). -/
inductive Op where
  | adc | and | asl | bcc | bcs | beq | bit | bmi | bne | bpl | brk | bvc | bvs
  | clc | cld | cli | clv | cmp | cpx | cpy | dec | dex | dey | eor | inc | inx | iny
  | jmp | jsr | lda | ldx | ldy | lsr | nop | ora | pha | php | pla | plp
  | rol | ror | rti | rts | sbc | sec | sed | sei | sta | stx | sty
  | tax | tay | tsx | txa | txs | tya | illegal
  deriving DecidableEq, Repr

end Sys2Proof
end

