-- ==== Sys2Proof/Syntax.lean ====
section
/-! DEFINITION. The instructions: one constructor for each legal row of the opcode table, named by mnemonic and mode where
a mnemonic has several (30_encoding R72, R73), and one for the rows of the illegal values, which all have the one operation
and differ in their opcode byte only (R76, 48_system R244). -/

namespace Sys2Proof

/-- An instruction with its operand. `v` is an immediate value, `b` a zero-page byte, `w` a 16-bit operand and `o` a signed
branch offset (30_encoding R71, R74). -/
inductive Instr where
  /-- ADC, mode IMM, opcode 0x69 (R160, R123). -/
  | adcImm (v : Byte)
  /-- ADC, mode ZP, opcode 0x65 (R160, R124). -/
  | adcZp (b : Byte)
  /-- ADC, mode ZPX, opcode 0x75 (R160, R125). -/
  | adcZpx (b : Byte)
  /-- ADC, mode ABS, opcode 0x6D (R160, R126). -/
  | adcAbs (w : Word)
  /-- ADC, mode ABX, opcode 0x7D (R160, R127). -/
  | adcAbx (w : Word)
  /-- ADC, mode ABY, opcode 0x79 (R160, R127). -/
  | adcAby (w : Word)
  /-- ADC, mode IZX, opcode 0x61 (R160, R130). -/
  | adcIzx (b : Byte)
  /-- ADC, mode IZY, opcode 0x71 (R160, R131). -/
  | adcIzy (b : Byte)
  /-- AND, mode IMM, opcode 0x29 (R162, R123). -/
  | andImm (v : Byte)
  /-- AND, mode ZP, opcode 0x25 (R162, R124). -/
  | andZp (b : Byte)
  /-- AND, mode ZPX, opcode 0x35 (R162, R125). -/
  | andZpx (b : Byte)
  /-- AND, mode ABS, opcode 0x2D (R162, R126). -/
  | andAbs (w : Word)
  /-- AND, mode ABX, opcode 0x3D (R162, R127). -/
  | andAbx (w : Word)
  /-- AND, mode ABY, opcode 0x39 (R162, R127). -/
  | andAby (w : Word)
  /-- AND, mode IZX, opcode 0x21 (R162, R130). -/
  | andIzx (b : Byte)
  /-- AND, mode IZY, opcode 0x31 (R162, R131). -/
  | andIzy (b : Byte)
  /-- ASL, mode ACC, opcode 0x0A (R190, R122). -/
  | aslAcc
  /-- ASL, mode ZP, opcode 0x06 (R190, R124). -/
  | aslZp (b : Byte)
  /-- ASL, mode ZPX, opcode 0x16 (R190, R125). -/
  | aslZpx (b : Byte)
  /-- ASL, mode ABS, opcode 0x0E (R190, R126). -/
  | aslAbs (w : Word)
  /-- ASL, mode ABX, opcode 0x1E (R190, R127). -/
  | aslAbx (w : Word)
  /-- BCC, mode REL, opcode 0x90 (R221, R128). -/
  | bcc (o : Byte)
  /-- BCS, mode REL, opcode 0xB0 (R222, R128). -/
  | bcs (o : Byte)
  /-- BEQ, mode REL, opcode 0xF0 (R223, R128). -/
  | beq (o : Byte)
  /-- BIT, mode ZP, opcode 0x24 (R168, R124). -/
  | bitZp (b : Byte)
  /-- BIT, mode ABS, opcode 0x2C (R168, R126). -/
  | bitAbs (w : Word)
  /-- BMI, mode REL, opcode 0x30 (R224, R128). -/
  | bmi (o : Byte)
  /-- BNE, mode REL, opcode 0xD0 (R225, R128). -/
  | bne (o : Byte)
  /-- BPL, mode REL, opcode 0x10 (R226, R128). -/
  | bpl (o : Byte)
  /-- BRK, mode IMP, opcode 0x00 (R240, R121). -/
  | brk
  /-- BVC, mode REL, opcode 0x50 (R227, R128). -/
  | bvc (o : Byte)
  /-- BVS, mode REL, opcode 0x70 (R228, R128). -/
  | bvs (o : Byte)
  /-- CLC, mode IMP, opcode 0x18 (R200, R121). -/
  | clc
  /-- CLD, mode IMP, opcode 0xD8 (R201, R121). -/
  | cld
  /-- CLI, mode IMP, opcode 0x58 (R202, R121). -/
  | cli
  /-- CLV, mode IMP, opcode 0xB8 (R203, R121). -/
  | clv
  /-- CMP, mode IMM, opcode 0xC9 (R165, R123). -/
  | cmpImm (v : Byte)
  /-- CMP, mode ZP, opcode 0xC5 (R165, R124). -/
  | cmpZp (b : Byte)
  /-- CMP, mode ZPX, opcode 0xD5 (R165, R125). -/
  | cmpZpx (b : Byte)
  /-- CMP, mode ABS, opcode 0xCD (R165, R126). -/
  | cmpAbs (w : Word)
  /-- CMP, mode ABX, opcode 0xDD (R165, R127). -/
  | cmpAbx (w : Word)
  /-- CMP, mode ABY, opcode 0xD9 (R165, R127). -/
  | cmpAby (w : Word)
  /-- CMP, mode IZX, opcode 0xC1 (R165, R130). -/
  | cmpIzx (b : Byte)
  /-- CMP, mode IZY, opcode 0xD1 (R165, R131). -/
  | cmpIzy (b : Byte)
  /-- CPX, mode IMM, opcode 0xE0 (R166, R123). -/
  | cpxImm (v : Byte)
  /-- CPX, mode ZP, opcode 0xE4 (R166, R124). -/
  | cpxZp (b : Byte)
  /-- CPX, mode ABS, opcode 0xEC (R166, R126). -/
  | cpxAbs (w : Word)
  /-- CPY, mode IMM, opcode 0xC0 (R167, R123). -/
  | cpyImm (v : Byte)
  /-- CPY, mode ZP, opcode 0xC4 (R167, R124). -/
  | cpyZp (b : Byte)
  /-- CPY, mode ABS, opcode 0xCC (R167, R126). -/
  | cpyAbs (w : Word)
  /-- DEC, mode ZP, opcode 0xC6 (R170, R124). -/
  | decZp (b : Byte)
  /-- DEC, mode ZPX, opcode 0xD6 (R170, R125). -/
  | decZpx (b : Byte)
  /-- DEC, mode ABS, opcode 0xCE (R170, R126). -/
  | decAbs (w : Word)
  /-- DEC, mode ABX, opcode 0xDE (R170, R127). -/
  | decAbx (w : Word)
  /-- DEX, mode IMP, opcode 0xCA (R173, R121). -/
  | dex
  /-- DEY, mode IMP, opcode 0x88 (R174, R121). -/
  | dey
  /-- EOR, mode IMM, opcode 0x49 (R164, R123). -/
  | eorImm (v : Byte)
  /-- EOR, mode ZP, opcode 0x45 (R164, R124). -/
  | eorZp (b : Byte)
  /-- EOR, mode ZPX, opcode 0x55 (R164, R125). -/
  | eorZpx (b : Byte)
  /-- EOR, mode ABS, opcode 0x4D (R164, R126). -/
  | eorAbs (w : Word)
  /-- EOR, mode ABX, opcode 0x5D (R164, R127). -/
  | eorAbx (w : Word)
  /-- EOR, mode ABY, opcode 0x59 (R164, R127). -/
  | eorAby (w : Word)
  /-- EOR, mode IZX, opcode 0x41 (R164, R130). -/
  | eorIzx (b : Byte)
  /-- EOR, mode IZY, opcode 0x51 (R164, R131). -/
  | eorIzy (b : Byte)
  /-- INC, mode ZP, opcode 0xE6 (R169, R124). -/
  | incZp (b : Byte)
  /-- INC, mode ZPX, opcode 0xF6 (R169, R125). -/
  | incZpx (b : Byte)
  /-- INC, mode ABS, opcode 0xEE (R169, R126). -/
  | incAbs (w : Word)
  /-- INC, mode ABX, opcode 0xFE (R169, R127). -/
  | incAbx (w : Word)
  /-- INX, mode IMP, opcode 0xE8 (R171, R121). -/
  | inx
  /-- INY, mode IMP, opcode 0xC8 (R172, R121). -/
  | iny
  /-- JMP, mode ABS, opcode 0x4C (R229, R126). -/
  | jmpAbs (w : Word)
  /-- JMP, mode IND, opcode 0x6C (R229, R129). -/
  | jmpInd (w : Word)
  /-- JSR, mode ABS, opcode 0x20 (R230, R126). -/
  | jsr (w : Word)
  /-- LDA, mode IMM, opcode 0xA9 (R140, R123). -/
  | ldaImm (v : Byte)
  /-- LDA, mode ZP, opcode 0xA5 (R140, R124). -/
  | ldaZp (b : Byte)
  /-- LDA, mode ZPX, opcode 0xB5 (R140, R125). -/
  | ldaZpx (b : Byte)
  /-- LDA, mode ABS, opcode 0xAD (R140, R126). -/
  | ldaAbs (w : Word)
  /-- LDA, mode ABX, opcode 0xBD (R140, R127). -/
  | ldaAbx (w : Word)
  /-- LDA, mode ABY, opcode 0xB9 (R140, R127). -/
  | ldaAby (w : Word)
  /-- LDA, mode IZX, opcode 0xA1 (R140, R130). -/
  | ldaIzx (b : Byte)
  /-- LDA, mode IZY, opcode 0xB1 (R140, R131). -/
  | ldaIzy (b : Byte)
  /-- LDX, mode IMM, opcode 0xA2 (R141, R123). -/
  | ldxImm (v : Byte)
  /-- LDX, mode ZP, opcode 0xA6 (R141, R124). -/
  | ldxZp (b : Byte)
  /-- LDX, mode ZPY, opcode 0xB6 (R141, R125). -/
  | ldxZpy (b : Byte)
  /-- LDX, mode ABS, opcode 0xAE (R141, R126). -/
  | ldxAbs (w : Word)
  /-- LDX, mode ABY, opcode 0xBE (R141, R127). -/
  | ldxAby (w : Word)
  /-- LDY, mode IMM, opcode 0xA0 (R142, R123). -/
  | ldyImm (v : Byte)
  /-- LDY, mode ZP, opcode 0xA4 (R142, R124). -/
  | ldyZp (b : Byte)
  /-- LDY, mode ZPX, opcode 0xB4 (R142, R125). -/
  | ldyZpx (b : Byte)
  /-- LDY, mode ABS, opcode 0xAC (R142, R126). -/
  | ldyAbs (w : Word)
  /-- LDY, mode ABX, opcode 0xBC (R142, R127). -/
  | ldyAbx (w : Word)
  /-- LSR, mode ACC, opcode 0x4A (R191, R122). -/
  | lsrAcc
  /-- LSR, mode ZP, opcode 0x46 (R191, R124). -/
  | lsrZp (b : Byte)
  /-- LSR, mode ZPX, opcode 0x56 (R191, R125). -/
  | lsrZpx (b : Byte)
  /-- LSR, mode ABS, opcode 0x4E (R191, R126). -/
  | lsrAbs (w : Word)
  /-- LSR, mode ABX, opcode 0x5E (R191, R127). -/
  | lsrAbx (w : Word)
  /-- NOP, mode IMP, opcode 0xEA (R242, R121). -/
  | nop
  /-- ORA, mode IMM, opcode 0x09 (R163, R123). -/
  | oraImm (v : Byte)
  /-- ORA, mode ZP, opcode 0x05 (R163, R124). -/
  | oraZp (b : Byte)
  /-- ORA, mode ZPX, opcode 0x15 (R163, R125). -/
  | oraZpx (b : Byte)
  /-- ORA, mode ABS, opcode 0x0D (R163, R126). -/
  | oraAbs (w : Word)
  /-- ORA, mode ABX, opcode 0x1D (R163, R127). -/
  | oraAbx (w : Word)
  /-- ORA, mode ABY, opcode 0x19 (R163, R127). -/
  | oraAby (w : Word)
  /-- ORA, mode IZX, opcode 0x01 (R163, R130). -/
  | oraIzx (b : Byte)
  /-- ORA, mode IZY, opcode 0x11 (R163, R131). -/
  | oraIzy (b : Byte)
  /-- PHA, mode IMP, opcode 0x48 (R212, R121). -/
  | pha
  /-- PHP, mode IMP, opcode 0x08 (R213, R121). -/
  | php
  /-- PLA, mode IMP, opcode 0x68 (R214, R121). -/
  | pla
  /-- PLP, mode IMP, opcode 0x28 (R215, R121). -/
  | plp
  /-- ROL, mode ACC, opcode 0x2A (R192, R122). -/
  | rolAcc
  /-- ROL, mode ZP, opcode 0x26 (R192, R124). -/
  | rolZp (b : Byte)
  /-- ROL, mode ZPX, opcode 0x36 (R192, R125). -/
  | rolZpx (b : Byte)
  /-- ROL, mode ABS, opcode 0x2E (R192, R126). -/
  | rolAbs (w : Word)
  /-- ROL, mode ABX, opcode 0x3E (R192, R127). -/
  | rolAbx (w : Word)
  /-- ROR, mode ACC, opcode 0x6A (R193, R122). -/
  | rorAcc
  /-- ROR, mode ZP, opcode 0x66 (R193, R124). -/
  | rorZp (b : Byte)
  /-- ROR, mode ZPX, opcode 0x76 (R193, R125). -/
  | rorZpx (b : Byte)
  /-- ROR, mode ABS, opcode 0x6E (R193, R126). -/
  | rorAbs (w : Word)
  /-- ROR, mode ABX, opcode 0x7E (R193, R127). -/
  | rorAbx (w : Word)
  /-- RTI, mode IMP, opcode 0x40 (R241, R121). -/
  | rti
  /-- RTS, mode IMP, opcode 0x60 (R231, R121). -/
  | rts
  /-- SBC, mode IMM, opcode 0xE9 (R161, R123). -/
  | sbcImm (v : Byte)
  /-- SBC, mode ZP, opcode 0xE5 (R161, R124). -/
  | sbcZp (b : Byte)
  /-- SBC, mode ZPX, opcode 0xF5 (R161, R125). -/
  | sbcZpx (b : Byte)
  /-- SBC, mode ABS, opcode 0xED (R161, R126). -/
  | sbcAbs (w : Word)
  /-- SBC, mode ABX, opcode 0xFD (R161, R127). -/
  | sbcAbx (w : Word)
  /-- SBC, mode ABY, opcode 0xF9 (R161, R127). -/
  | sbcAby (w : Word)
  /-- SBC, mode IZX, opcode 0xE1 (R161, R130). -/
  | sbcIzx (b : Byte)
  /-- SBC, mode IZY, opcode 0xF1 (R161, R131). -/
  | sbcIzy (b : Byte)
  /-- SEC, mode IMP, opcode 0x38 (R204, R121). -/
  | sec
  /-- SED, mode IMP, opcode 0xF8 (R205, R121). -/
  | sed
  /-- SEI, mode IMP, opcode 0x78 (R206, R121). -/
  | sei
  /-- STA, mode ZP, opcode 0x85 (R143, R124). -/
  | staZp (b : Byte)
  /-- STA, mode ZPX, opcode 0x95 (R143, R125). -/
  | staZpx (b : Byte)
  /-- STA, mode ABS, opcode 0x8D (R143, R126). -/
  | staAbs (w : Word)
  /-- STA, mode ABX, opcode 0x9D (R143, R127). -/
  | staAbx (w : Word)
  /-- STA, mode ABY, opcode 0x99 (R143, R127). -/
  | staAby (w : Word)
  /-- STA, mode IZX, opcode 0x81 (R143, R130). -/
  | staIzx (b : Byte)
  /-- STA, mode IZY, opcode 0x91 (R143, R131). -/
  | staIzy (b : Byte)
  /-- STX, mode ZP, opcode 0x86 (R144, R124). -/
  | stxZp (b : Byte)
  /-- STX, mode ZPY, opcode 0x96 (R144, R125). -/
  | stxZpy (b : Byte)
  /-- STX, mode ABS, opcode 0x8E (R144, R126). -/
  | stxAbs (w : Word)
  /-- STY, mode ZP, opcode 0x84 (R145, R124). -/
  | styZp (b : Byte)
  /-- STY, mode ZPX, opcode 0x94 (R145, R125). -/
  | styZpx (b : Byte)
  /-- STY, mode ABS, opcode 0x8C (R145, R126). -/
  | styAbs (w : Word)
  /-- TAX, mode IMP, opcode 0xAA (R146, R121). -/
  | tax
  /-- TAY, mode IMP, opcode 0xA8 (R147, R121). -/
  | tay
  /-- TSX, mode IMP, opcode 0xBA (R150, R121). -/
  | tsx
  /-- TXA, mode IMP, opcode 0x8A (R148, R121). -/
  | txa
  /-- TXS, mode IMP, opcode 0x9A (R151, R121). -/
  | txs
  /-- TYA, mode IMP, opcode 0x98 (R149, R121). -/
  | tya
  /-- An illegal opcode value, kept as the byte it is (48_system R244, 41_addressing_modes R134). -/
  | illegal (op : Byte)
  deriving DecidableEq, Repr

end Sys2Proof
end

