-- ==== Sys2Proof/Decode.lean ====
section
/-! DEFINITION. The instruction decoder and the encoder (30_encoding), with the byte-order and extension helpers of
00_scope R8 and R9. -/

namespace Sys2Proof

/-- `{hi, lo}`: a 16-bit value from two bytes (00_scope R8). -/
def wordOf (hi lo : Byte) : Word := hi ++ lo

/-- `hi(w)`, bits 15 to 8 (00_scope R9). -/
def hiByte (w : Word) : Byte := w.extractLsb' 8 8

/-- `lo(w)`, bits 7 to 0 (00_scope R9). -/
def loByte (w : Word) : Byte := w.extractLsb' 0 8

/-- `zext_16(b)` (00_scope R9). -/
def zext16 (b : Byte) : Word := b.setWidth 16

/-- `sext_16(b)`: the high byte becomes 0xFF when bit 7 is set (00_scope R9, 41_addressing_modes R128). -/
def sext16 (b : Byte) : Word := if b.msb then 0xFF00 ||| zext16 b else zext16 b

/-- ILLEGAL_BASE_CYCLES, in 1 to 8 (00_scope R7, D9; log entry 5). -/
def illegalBaseCycles (op : Byte) : Byte := (Config.illegalExtraCycles op).setWidth 8 + 1

/-- The operand bytes of a mode, in the order they follow the opcode: low byte first (30_encoding R71, R74). -/
def Mode.operandBytes : Mode → List Byte
  | .imp | .acc | .ill => []
  | .imm b | .zp b | .zpx b | .zpy b | .izx b | .izy b | .rel b => [b]
  | .abs w | .abx w | .aby w | .ind w => [loByte w, hiByte w]

/-- An entry of the OpcodeTable with its opcode value: mode, operation and base cycles (30_encoding R72). -/
structure Entry where
  opcode : Byte
  op : Op
  mode : Mode
  base : Byte
  deriving DecidableEq, Repr

/-- The OpcodeTable, read from the instruction (30_encoding R73, R76). -/
def Instr.entry : Instr → Entry
  | .adcImm v => ⟨0x69, .adc, .imm v, 2⟩
  | .adcZp b => ⟨0x65, .adc, .zp b, 3⟩
  | .adcZpx b => ⟨0x75, .adc, .zpx b, 4⟩
  | .adcAbs w => ⟨0x6D, .adc, .abs w, 4⟩
  | .adcAbx w => ⟨0x7D, .adc, .abx w, 4⟩
  | .adcAby w => ⟨0x79, .adc, .aby w, 4⟩
  | .adcIzx b => ⟨0x61, .adc, .izx b, 6⟩
  | .adcIzy b => ⟨0x71, .adc, .izy b, 5⟩
  | .andImm v => ⟨0x29, .and, .imm v, 2⟩
  | .andZp b => ⟨0x25, .and, .zp b, 3⟩
  | .andZpx b => ⟨0x35, .and, .zpx b, 4⟩
  | .andAbs w => ⟨0x2D, .and, .abs w, 4⟩
  | .andAbx w => ⟨0x3D, .and, .abx w, 4⟩
  | .andAby w => ⟨0x39, .and, .aby w, 4⟩
  | .andIzx b => ⟨0x21, .and, .izx b, 6⟩
  | .andIzy b => ⟨0x31, .and, .izy b, 5⟩
  | .aslAcc => ⟨0x0A, .asl, .acc, 2⟩
  | .aslZp b => ⟨0x06, .asl, .zp b, 5⟩
  | .aslZpx b => ⟨0x16, .asl, .zpx b, 6⟩
  | .aslAbs w => ⟨0x0E, .asl, .abs w, 6⟩
  | .aslAbx w => ⟨0x1E, .asl, .abx w, 7⟩
  | .bcc o => ⟨0x90, .bcc, .rel o, 2⟩
  | .bcs o => ⟨0xB0, .bcs, .rel o, 2⟩
  | .beq o => ⟨0xF0, .beq, .rel o, 2⟩
  | .bitZp b => ⟨0x24, .bit, .zp b, 3⟩
  | .bitAbs w => ⟨0x2C, .bit, .abs w, 4⟩
  | .bmi o => ⟨0x30, .bmi, .rel o, 2⟩
  | .bne o => ⟨0xD0, .bne, .rel o, 2⟩
  | .bpl o => ⟨0x10, .bpl, .rel o, 2⟩
  | .brk => ⟨0x00, .brk, .imp, 7⟩
  | .bvc o => ⟨0x50, .bvc, .rel o, 2⟩
  | .bvs o => ⟨0x70, .bvs, .rel o, 2⟩
  | .clc => ⟨0x18, .clc, .imp, 2⟩
  | .cld => ⟨0xD8, .cld, .imp, 2⟩
  | .cli => ⟨0x58, .cli, .imp, 2⟩
  | .clv => ⟨0xB8, .clv, .imp, 2⟩
  | .cmpImm v => ⟨0xC9, .cmp, .imm v, 2⟩
  | .cmpZp b => ⟨0xC5, .cmp, .zp b, 3⟩
  | .cmpZpx b => ⟨0xD5, .cmp, .zpx b, 4⟩
  | .cmpAbs w => ⟨0xCD, .cmp, .abs w, 4⟩
  | .cmpAbx w => ⟨0xDD, .cmp, .abx w, 4⟩
  | .cmpAby w => ⟨0xD9, .cmp, .aby w, 4⟩
  | .cmpIzx b => ⟨0xC1, .cmp, .izx b, 6⟩
  | .cmpIzy b => ⟨0xD1, .cmp, .izy b, 5⟩
  | .cpxImm v => ⟨0xE0, .cpx, .imm v, 2⟩
  | .cpxZp b => ⟨0xE4, .cpx, .zp b, 3⟩
  | .cpxAbs w => ⟨0xEC, .cpx, .abs w, 4⟩
  | .cpyImm v => ⟨0xC0, .cpy, .imm v, 2⟩
  | .cpyZp b => ⟨0xC4, .cpy, .zp b, 3⟩
  | .cpyAbs w => ⟨0xCC, .cpy, .abs w, 4⟩
  | .decZp b => ⟨0xC6, .dec, .zp b, 5⟩
  | .decZpx b => ⟨0xD6, .dec, .zpx b, 6⟩
  | .decAbs w => ⟨0xCE, .dec, .abs w, 6⟩
  | .decAbx w => ⟨0xDE, .dec, .abx w, 7⟩
  | .dex => ⟨0xCA, .dex, .imp, 2⟩
  | .dey => ⟨0x88, .dey, .imp, 2⟩
  | .eorImm v => ⟨0x49, .eor, .imm v, 2⟩
  | .eorZp b => ⟨0x45, .eor, .zp b, 3⟩
  | .eorZpx b => ⟨0x55, .eor, .zpx b, 4⟩
  | .eorAbs w => ⟨0x4D, .eor, .abs w, 4⟩
  | .eorAbx w => ⟨0x5D, .eor, .abx w, 4⟩
  | .eorAby w => ⟨0x59, .eor, .aby w, 4⟩
  | .eorIzx b => ⟨0x41, .eor, .izx b, 6⟩
  | .eorIzy b => ⟨0x51, .eor, .izy b, 5⟩
  | .incZp b => ⟨0xE6, .inc, .zp b, 5⟩
  | .incZpx b => ⟨0xF6, .inc, .zpx b, 6⟩
  | .incAbs w => ⟨0xEE, .inc, .abs w, 6⟩
  | .incAbx w => ⟨0xFE, .inc, .abx w, 7⟩
  | .inx => ⟨0xE8, .inx, .imp, 2⟩
  | .iny => ⟨0xC8, .iny, .imp, 2⟩
  | .jmpAbs w => ⟨0x4C, .jmp, .abs w, 3⟩
  | .jmpInd w => ⟨0x6C, .jmp, .ind w, 5⟩
  | .jsr w => ⟨0x20, .jsr, .abs w, 6⟩
  | .ldaImm v => ⟨0xA9, .lda, .imm v, 2⟩
  | .ldaZp b => ⟨0xA5, .lda, .zp b, 3⟩
  | .ldaZpx b => ⟨0xB5, .lda, .zpx b, 4⟩
  | .ldaAbs w => ⟨0xAD, .lda, .abs w, 4⟩
  | .ldaAbx w => ⟨0xBD, .lda, .abx w, 4⟩
  | .ldaAby w => ⟨0xB9, .lda, .aby w, 4⟩
  | .ldaIzx b => ⟨0xA1, .lda, .izx b, 6⟩
  | .ldaIzy b => ⟨0xB1, .lda, .izy b, 5⟩
  | .ldxImm v => ⟨0xA2, .ldx, .imm v, 2⟩
  | .ldxZp b => ⟨0xA6, .ldx, .zp b, 3⟩
  | .ldxZpy b => ⟨0xB6, .ldx, .zpy b, 4⟩
  | .ldxAbs w => ⟨0xAE, .ldx, .abs w, 4⟩
  | .ldxAby w => ⟨0xBE, .ldx, .aby w, 4⟩
  | .ldyImm v => ⟨0xA0, .ldy, .imm v, 2⟩
  | .ldyZp b => ⟨0xA4, .ldy, .zp b, 3⟩
  | .ldyZpx b => ⟨0xB4, .ldy, .zpx b, 4⟩
  | .ldyAbs w => ⟨0xAC, .ldy, .abs w, 4⟩
  | .ldyAbx w => ⟨0xBC, .ldy, .abx w, 4⟩
  | .lsrAcc => ⟨0x4A, .lsr, .acc, 2⟩
  | .lsrZp b => ⟨0x46, .lsr, .zp b, 5⟩
  | .lsrZpx b => ⟨0x56, .lsr, .zpx b, 6⟩
  | .lsrAbs w => ⟨0x4E, .lsr, .abs w, 6⟩
  | .lsrAbx w => ⟨0x5E, .lsr, .abx w, 7⟩
  | .nop => ⟨0xEA, .nop, .imp, 2⟩
  | .oraImm v => ⟨0x09, .ora, .imm v, 2⟩
  | .oraZp b => ⟨0x05, .ora, .zp b, 3⟩
  | .oraZpx b => ⟨0x15, .ora, .zpx b, 4⟩
  | .oraAbs w => ⟨0x0D, .ora, .abs w, 4⟩
  | .oraAbx w => ⟨0x1D, .ora, .abx w, 4⟩
  | .oraAby w => ⟨0x19, .ora, .aby w, 4⟩
  | .oraIzx b => ⟨0x01, .ora, .izx b, 6⟩
  | .oraIzy b => ⟨0x11, .ora, .izy b, 5⟩
  | .pha => ⟨0x48, .pha, .imp, 3⟩
  | .php => ⟨0x08, .php, .imp, 3⟩
  | .pla => ⟨0x68, .pla, .imp, 4⟩
  | .plp => ⟨0x28, .plp, .imp, 4⟩
  | .rolAcc => ⟨0x2A, .rol, .acc, 2⟩
  | .rolZp b => ⟨0x26, .rol, .zp b, 5⟩
  | .rolZpx b => ⟨0x36, .rol, .zpx b, 6⟩
  | .rolAbs w => ⟨0x2E, .rol, .abs w, 6⟩
  | .rolAbx w => ⟨0x3E, .rol, .abx w, 7⟩
  | .rorAcc => ⟨0x6A, .ror, .acc, 2⟩
  | .rorZp b => ⟨0x66, .ror, .zp b, 5⟩
  | .rorZpx b => ⟨0x76, .ror, .zpx b, 6⟩
  | .rorAbs w => ⟨0x6E, .ror, .abs w, 6⟩
  | .rorAbx w => ⟨0x7E, .ror, .abx w, 7⟩
  | .rti => ⟨0x40, .rti, .imp, 6⟩
  | .rts => ⟨0x60, .rts, .imp, 6⟩
  | .sbcImm v => ⟨0xE9, .sbc, .imm v, 2⟩
  | .sbcZp b => ⟨0xE5, .sbc, .zp b, 3⟩
  | .sbcZpx b => ⟨0xF5, .sbc, .zpx b, 4⟩
  | .sbcAbs w => ⟨0xED, .sbc, .abs w, 4⟩
  | .sbcAbx w => ⟨0xFD, .sbc, .abx w, 4⟩
  | .sbcAby w => ⟨0xF9, .sbc, .aby w, 4⟩
  | .sbcIzx b => ⟨0xE1, .sbc, .izx b, 6⟩
  | .sbcIzy b => ⟨0xF1, .sbc, .izy b, 5⟩
  | .sec => ⟨0x38, .sec, .imp, 2⟩
  | .sed => ⟨0xF8, .sed, .imp, 2⟩
  | .sei => ⟨0x78, .sei, .imp, 2⟩
  | .staZp b => ⟨0x85, .sta, .zp b, 3⟩
  | .staZpx b => ⟨0x95, .sta, .zpx b, 4⟩
  | .staAbs w => ⟨0x8D, .sta, .abs w, 4⟩
  | .staAbx w => ⟨0x9D, .sta, .abx w, 5⟩
  | .staAby w => ⟨0x99, .sta, .aby w, 5⟩
  | .staIzx b => ⟨0x81, .sta, .izx b, 6⟩
  | .staIzy b => ⟨0x91, .sta, .izy b, 6⟩
  | .stxZp b => ⟨0x86, .stx, .zp b, 3⟩
  | .stxZpy b => ⟨0x96, .stx, .zpy b, 4⟩
  | .stxAbs w => ⟨0x8E, .stx, .abs w, 4⟩
  | .styZp b => ⟨0x84, .sty, .zp b, 3⟩
  | .styZpx b => ⟨0x94, .sty, .zpx b, 4⟩
  | .styAbs w => ⟨0x8C, .sty, .abs w, 4⟩
  | .tax => ⟨0xAA, .tax, .imp, 2⟩
  | .tay => ⟨0xA8, .tay, .imp, 2⟩
  | .tsx => ⟨0xBA, .tsx, .imp, 2⟩
  | .txa => ⟨0x8A, .txa, .imp, 2⟩
  | .txs => ⟨0x9A, .txs, .imp, 2⟩
  | .tya => ⟨0x98, .tya, .imp, 2⟩
  | .illegal op => ⟨op, .illegal, .ill, illegalBaseCycles op⟩

/-- The bytes of an instruction, at rising addresses (30_encoding R70, R71). -/
def encode (i : Instr) : List Byte := i.entry.opcode :: i.entry.mode.operandBytes

/-- The length of an instruction in bytes (30_encoding R75). BRK's padding byte is its operation's business (48_system
R240), not part of this length. -/
def Instr.size (i : Instr) : Nat := (encode i).length

/-- What an opcode byte asks the decoder to read after it (30_encoding R70, R71). -/
inductive Row where
  | whole (i : Instr)
  | withByte (f : Byte → Instr)
  | withWord (f : Word → Instr)

/-- Row 0x of the opcode map, by the low nibble (30_encoding R73). -/
def opcodeRow0 : Nat → Option Row
  | 0x0 => some (.whole .brk)
  | 0x1 => some (.withByte .oraIzx)
  | 0x5 => some (.withByte .oraZp)
  | 0x6 => some (.withByte .aslZp)
  | 0x8 => some (.whole .php)
  | 0x9 => some (.withByte .oraImm)
  | 0xA => some (.whole .aslAcc)
  | 0xD => some (.withWord .oraAbs)
  | 0xE => some (.withWord .aslAbs)
  | _ => none

/-- Row 1x of the opcode map, by the low nibble (30_encoding R73). -/
def opcodeRow1 : Nat → Option Row
  | 0x0 => some (.withByte .bpl)
  | 0x1 => some (.withByte .oraIzy)
  | 0x5 => some (.withByte .oraZpx)
  | 0x6 => some (.withByte .aslZpx)
  | 0x8 => some (.whole .clc)
  | 0x9 => some (.withWord .oraAby)
  | 0xD => some (.withWord .oraAbx)
  | 0xE => some (.withWord .aslAbx)
  | _ => none

/-- Row 2x of the opcode map, by the low nibble (30_encoding R73). -/
def opcodeRow2 : Nat → Option Row
  | 0x0 => some (.withWord .jsr)
  | 0x1 => some (.withByte .andIzx)
  | 0x4 => some (.withByte .bitZp)
  | 0x5 => some (.withByte .andZp)
  | 0x6 => some (.withByte .rolZp)
  | 0x8 => some (.whole .plp)
  | 0x9 => some (.withByte .andImm)
  | 0xA => some (.whole .rolAcc)
  | 0xC => some (.withWord .bitAbs)
  | 0xD => some (.withWord .andAbs)
  | 0xE => some (.withWord .rolAbs)
  | _ => none

/-- Row 3x of the opcode map, by the low nibble (30_encoding R73). -/
def opcodeRow3 : Nat → Option Row
  | 0x0 => some (.withByte .bmi)
  | 0x1 => some (.withByte .andIzy)
  | 0x5 => some (.withByte .andZpx)
  | 0x6 => some (.withByte .rolZpx)
  | 0x8 => some (.whole .sec)
  | 0x9 => some (.withWord .andAby)
  | 0xD => some (.withWord .andAbx)
  | 0xE => some (.withWord .rolAbx)
  | _ => none

/-- Row 4x of the opcode map, by the low nibble (30_encoding R73). -/
def opcodeRow4 : Nat → Option Row
  | 0x0 => some (.whole .rti)
  | 0x1 => some (.withByte .eorIzx)
  | 0x5 => some (.withByte .eorZp)
  | 0x6 => some (.withByte .lsrZp)
  | 0x8 => some (.whole .pha)
  | 0x9 => some (.withByte .eorImm)
  | 0xA => some (.whole .lsrAcc)
  | 0xC => some (.withWord .jmpAbs)
  | 0xD => some (.withWord .eorAbs)
  | 0xE => some (.withWord .lsrAbs)
  | _ => none

/-- Row 5x of the opcode map, by the low nibble (30_encoding R73). -/
def opcodeRow5 : Nat → Option Row
  | 0x0 => some (.withByte .bvc)
  | 0x1 => some (.withByte .eorIzy)
  | 0x5 => some (.withByte .eorZpx)
  | 0x6 => some (.withByte .lsrZpx)
  | 0x8 => some (.whole .cli)
  | 0x9 => some (.withWord .eorAby)
  | 0xD => some (.withWord .eorAbx)
  | 0xE => some (.withWord .lsrAbx)
  | _ => none

/-- Row 6x of the opcode map, by the low nibble (30_encoding R73). -/
def opcodeRow6 : Nat → Option Row
  | 0x0 => some (.whole .rts)
  | 0x1 => some (.withByte .adcIzx)
  | 0x5 => some (.withByte .adcZp)
  | 0x6 => some (.withByte .rorZp)
  | 0x8 => some (.whole .pla)
  | 0x9 => some (.withByte .adcImm)
  | 0xA => some (.whole .rorAcc)
  | 0xC => some (.withWord .jmpInd)
  | 0xD => some (.withWord .adcAbs)
  | 0xE => some (.withWord .rorAbs)
  | _ => none

/-- Row 7x of the opcode map, by the low nibble (30_encoding R73). -/
def opcodeRow7 : Nat → Option Row
  | 0x0 => some (.withByte .bvs)
  | 0x1 => some (.withByte .adcIzy)
  | 0x5 => some (.withByte .adcZpx)
  | 0x6 => some (.withByte .rorZpx)
  | 0x8 => some (.whole .sei)
  | 0x9 => some (.withWord .adcAby)
  | 0xD => some (.withWord .adcAbx)
  | 0xE => some (.withWord .rorAbx)
  | _ => none

/-- Row 8x of the opcode map, by the low nibble (30_encoding R73). -/
def opcodeRow8 : Nat → Option Row
  | 0x1 => some (.withByte .staIzx)
  | 0x4 => some (.withByte .styZp)
  | 0x5 => some (.withByte .staZp)
  | 0x6 => some (.withByte .stxZp)
  | 0x8 => some (.whole .dey)
  | 0xA => some (.whole .txa)
  | 0xC => some (.withWord .styAbs)
  | 0xD => some (.withWord .staAbs)
  | 0xE => some (.withWord .stxAbs)
  | _ => none

/-- Row 9x of the opcode map, by the low nibble (30_encoding R73). -/
def opcodeRow9 : Nat → Option Row
  | 0x0 => some (.withByte .bcc)
  | 0x1 => some (.withByte .staIzy)
  | 0x4 => some (.withByte .styZpx)
  | 0x5 => some (.withByte .staZpx)
  | 0x6 => some (.withByte .stxZpy)
  | 0x8 => some (.whole .tya)
  | 0x9 => some (.withWord .staAby)
  | 0xA => some (.whole .txs)
  | 0xD => some (.withWord .staAbx)
  | _ => none

/-- Row Ax of the opcode map, by the low nibble (30_encoding R73). -/
def opcodeRowA : Nat → Option Row
  | 0x0 => some (.withByte .ldyImm)
  | 0x1 => some (.withByte .ldaIzx)
  | 0x2 => some (.withByte .ldxImm)
  | 0x4 => some (.withByte .ldyZp)
  | 0x5 => some (.withByte .ldaZp)
  | 0x6 => some (.withByte .ldxZp)
  | 0x8 => some (.whole .tay)
  | 0x9 => some (.withByte .ldaImm)
  | 0xA => some (.whole .tax)
  | 0xC => some (.withWord .ldyAbs)
  | 0xD => some (.withWord .ldaAbs)
  | 0xE => some (.withWord .ldxAbs)
  | _ => none

/-- Row Bx of the opcode map, by the low nibble (30_encoding R73). -/
def opcodeRowB : Nat → Option Row
  | 0x0 => some (.withByte .bcs)
  | 0x1 => some (.withByte .ldaIzy)
  | 0x4 => some (.withByte .ldyZpx)
  | 0x5 => some (.withByte .ldaZpx)
  | 0x6 => some (.withByte .ldxZpy)
  | 0x8 => some (.whole .clv)
  | 0x9 => some (.withWord .ldaAby)
  | 0xA => some (.whole .tsx)
  | 0xC => some (.withWord .ldyAbx)
  | 0xD => some (.withWord .ldaAbx)
  | 0xE => some (.withWord .ldxAby)
  | _ => none

/-- Row Cx of the opcode map, by the low nibble (30_encoding R73). -/
def opcodeRowC : Nat → Option Row
  | 0x0 => some (.withByte .cpyImm)
  | 0x1 => some (.withByte .cmpIzx)
  | 0x4 => some (.withByte .cpyZp)
  | 0x5 => some (.withByte .cmpZp)
  | 0x6 => some (.withByte .decZp)
  | 0x8 => some (.whole .iny)
  | 0x9 => some (.withByte .cmpImm)
  | 0xA => some (.whole .dex)
  | 0xC => some (.withWord .cpyAbs)
  | 0xD => some (.withWord .cmpAbs)
  | 0xE => some (.withWord .decAbs)
  | _ => none

/-- Row Dx of the opcode map, by the low nibble (30_encoding R73). -/
def opcodeRowD : Nat → Option Row
  | 0x0 => some (.withByte .bne)
  | 0x1 => some (.withByte .cmpIzy)
  | 0x5 => some (.withByte .cmpZpx)
  | 0x6 => some (.withByte .decZpx)
  | 0x8 => some (.whole .cld)
  | 0x9 => some (.withWord .cmpAby)
  | 0xD => some (.withWord .cmpAbx)
  | 0xE => some (.withWord .decAbx)
  | _ => none

/-- Row Ex of the opcode map, by the low nibble (30_encoding R73). -/
def opcodeRowE : Nat → Option Row
  | 0x0 => some (.withByte .cpxImm)
  | 0x1 => some (.withByte .sbcIzx)
  | 0x4 => some (.withByte .cpxZp)
  | 0x5 => some (.withByte .sbcZp)
  | 0x6 => some (.withByte .incZp)
  | 0x8 => some (.whole .inx)
  | 0x9 => some (.withByte .sbcImm)
  | 0xA => some (.whole .nop)
  | 0xC => some (.withWord .cpxAbs)
  | 0xD => some (.withWord .sbcAbs)
  | 0xE => some (.withWord .incAbs)
  | _ => none

/-- Row Fx of the opcode map, by the low nibble (30_encoding R73). -/
def opcodeRowF : Nat → Option Row
  | 0x0 => some (.withByte .beq)
  | 0x1 => some (.withByte .sbcIzy)
  | 0x5 => some (.withByte .sbcZpx)
  | 0x6 => some (.withByte .incZpx)
  | 0x8 => some (.whole .sed)
  | 0x9 => some (.withWord .sbcAby)
  | 0xD => some (.withWord .sbcAbx)
  | 0xE => some (.withWord .incAbx)
  | _ => none

/-- The legal row of an opcode byte, by its high nibble; none for the 105 illegal values (30_encoding R73, R76). -/
def legalRow (b : Byte) : Option Row :=
  match b.toNat / 16 with
  | 0x0 => opcodeRow0 (b.toNat % 16)
  | 0x1 => opcodeRow1 (b.toNat % 16)
  | 0x2 => opcodeRow2 (b.toNat % 16)
  | 0x3 => opcodeRow3 (b.toNat % 16)
  | 0x4 => opcodeRow4 (b.toNat % 16)
  | 0x5 => opcodeRow5 (b.toNat % 16)
  | 0x6 => opcodeRow6 (b.toNat % 16)
  | 0x7 => opcodeRow7 (b.toNat % 16)
  | 0x8 => opcodeRow8 (b.toNat % 16)
  | 0x9 => opcodeRow9 (b.toNat % 16)
  | 0xA => opcodeRowA (b.toNat % 16)
  | 0xB => opcodeRowB (b.toNat % 16)
  | 0xC => opcodeRowC (b.toNat % 16)
  | 0xD => opcodeRowD (b.toNat % 16)
  | 0xE => opcodeRowE (b.toNat % 16)
  | 0xF => opcodeRowF (b.toNat % 16)
  | _ => none

/-- The row of an opcode byte: total, the illegal values one by one and no neighbour's meaning (30_encoding R72, R76). -/
def rowOf (b : Byte) : Row := (legalRow b).getD (.whole (.illegal b))

/-- Why bytes are not an instruction. No opcode value is refused (30_encoding R72); only missing bytes are. -/
inductive DecodeError where
  /-- There is no opcode byte. -/
  | noOpcode
  /-- The bytes end before the operand of this opcode does. -/
  | missingOperand (opcode : Byte)
  deriving DecidableEq, Repr

/-- Decoding bytes at rising addresses: the instruction and the bytes after it (30_encoding R70 to R76). -/
def decode : List Byte → Except DecodeError (Instr × List Byte)
  | [] => .error .noOpcode
  | b :: rest =>
    match rowOf b, rest with
    | .whole i, rest => .ok (i, rest)
    | .withByte f, v :: rest => .ok (f v, rest)
    | .withWord f, lo :: hi :: rest => .ok (f (wordOf hi lo), rest)
    | .withByte _, [] | .withWord _, [] | .withWord _, [_] => .error (.missingOperand b)

/-- Decoding an opcode byte and the two bytes after it, of which an instruction uses none, one or both. It refuses
nothing, and is what the engine runs: three bytes can always be read (20_memory R50, R60). -/
def decodeBytes (b0 b1 b2 : Byte) : Instr :=
  match rowOf b0 with
  | .whole i => i
  | .withByte f => f b1
  | .withWord f => f (wordOf b2 b1)

/-- Byte k of a number whose bits are numbered from the first byte's least significant bit. -/
def tableByte (w k : Nat) : Byte := BitVec.ofNat 8 (w / 2 ^ (8 * k))

/-- The instruction the decoder reads from bits numbered as spec/opcode_table.json numbers them; bits at nbits and above
are 0. -/
def decodeTableWord (nbits w : Nat) : Option Instr :=
  let v := w % 2 ^ nbits
  match decode [tableByte v 0, tableByte v 1, tableByte v 2] with
  | .ok (i, _) => some i
  | .error _ => none

end Sys2Proof
end

