-- ==== Sys2Proof/Machine/State.lean ====
section
/-! DEFINITION. The state of CORE as plain data, the reasons a step can stop, and the state after reset
(10_state, 70_reset_and_hazards). -/

namespace Sys2Proof.Machine

/-- Memory: (address, byte) pairs with rising addresses and no entry equal to Config.unlistedByte. Every access goes
through the operations of Machine/Ops.lean, which keep that form. -/
abbrev Memory := List Host.Cell

/-- A command of the host (10_state R43). The argument of `init` is the contents of the bus it attaches: the listed
cells are written, in order, over a memory in which nothing is listed (INITIAL_MEMORY, 70_reset R400). -/
inductive Command where
  | clock
  | reset
  | irq
  | nmi
  | init (bus : List Host.Cell)
  deriving DecidableEq, Repr

/-- All the state of CORE and its bus (10_state R20, R25, R31, R45), and the host's commands still to be issued. -/
structure State where
  /-- Accumulator (R20). -/
  a : Byte
  /-- Index register X (R20). -/
  x : Byte
  /-- Index register Y (R20). -/
  y : Byte
  /-- Stack pointer, an index into page 1 (R23). -/
  sp : Byte
  /-- Program counter (R24). -/
  pc : Word
  /-- STATUS: C Z I D B U V N from bit 0 up (R25). -/
  status : Byte
  /-- The current opcode byte (R31, 40_execution_engine R109). -/
  opcode : Byte
  /-- The fetched operand byte, transient (R31, R33). -/
  fetched : Byte
  /-- The effective address, transient (R31, R33). -/
  addrAbs : Word
  /-- The sign-extended branch offset, transient (R31, R33). -/
  addrRel : Word
  /-- The remaining-cycle counter, 8 bits (R31, D14). -/
  cycles : Byte
  /-- The bus contents, owned by CORE (R45, 20_memory R50). -/
  mem : Memory
  /-- DESIGN CHOICE, the model's own field (log entry 2): the commands the host will issue next, first one first. When none
  is listed the host issues `clock()`. No rule of CORE reads it; only the step does. -/
  commands : List Command
  deriving DecidableEq, Repr

/-- Why a step stops with a fault. -/
inductive Fault where
  /-- A bus address that is not 16 bits (20_memory R58). Safe. Nothing raises it: every address is a Word, so the
  violation is structurally unreachable, as the rule says. -/
  | busAddress
  deriving DecidableEq, Repr

/-- Why a step is refused. -/
inductive Refusal where
  /-- An instruction exec gives no meaning, by its mnemonic. Safe. Raised by arms of exec only; in this model none. -/
  | notModelled (mnemonic : String)
  deriving DecidableEq, Repr

/-- What a step answers. -/
abbrev Result := Host.Outcome State Fault Refusal

/-- The machine right after reset (70_reset R400 to R402): `init` has run on a bus that lists nothing, so PC holds the
two bytes at 0xFFFC and 0xFFFD of that bus and the counter holds 8. The list of commands is empty (log entry 2). -/
def State.reset : State :=
  { a := 0x00, x := 0x00, y := 0x00, sp := 0xFD, pc := 0x0000, status := 0x20
    opcode := 0x00, fetched := 0x00, addrAbs := 0x0000, addrRel := 0x0000, cycles := 8
    mem := [], commands := [] }

end Sys2Proof.Machine
end

