-- ==== Sys2Proof/Machine/Flags.lean ====
section
/-! DEFINITION. The flag codec and every computation of a result with its flags (10_state R25 to R29,
43_arithmetic_logic, 44_shift_rotate). All of it acts on the STATUS byte as a value. -/

namespace Sys2Proof.Machine

/-- The eight bits of STATUS (R25). -/
inductive Flag where
  | c | z | i | d | b | u | v | n
  deriving DecidableEq, Repr

/-- The bit number of a flag (R25). -/
def Flag.bit : Flag → Nat
  | .c => 0 | .z => 1 | .i => 2 | .d => 3 | .b => 4 | .u => 5 | .v => 6 | .n => 7

/-- The mask of a flag (R25). -/
def Flag.mask : Flag → Byte
  | .c => 0x01 | .z => 0x02 | .i => 0x04 | .d => 0x08 | .b => 0x10 | .u => 0x20 | .v => 0x40 | .n => 0x80

/-- `get_flag(f)` (R26). -/
def getFlag (st : Byte) (f : Flag) : Bool := st.getLsbD f.bit

/-- `set_flag(f, on)`: one bit, all others kept (R26). -/
def setFlag (st : Byte) (f : Flag) (on : Bool) : Byte :=
  if on then st ||| f.mask else st &&& ~~~ f.mask

/-- `SetNZ(v)` (R27). -/
def setNZ (st v : Byte) : Byte := setFlag (setFlag st .z (v == 0x00)) .n v.msb

/-- C, Z and N from a carry and a result, the pattern of the compares and shifts. -/
def setCNZ (st : Byte) (carry : Bool) (v : Byte) : Byte := setNZ (setFlag st .c carry) v

/-- The widened sum of ADC, 9 bits (43_arithmetic_logic R160, R175). -/
def wideSum (a m : Byte) (carry : Bool) : BitVec 9 :=
  a.setWidth 9 + m.setWidth 9 + (if carry then 1 else 0)

/-- The byte ADC leaves in A (R160). -/
def addResult (st a m : Byte) : Byte := (wideSum a m (getFlag st .c)).setWidth 8

/-- STATUS after ADC of `m` to `a` (R160). D is not read. -/
def addStatus (st a m : Byte) : Byte :=
  let sum := wideSum a m (getFlag st .c)
  let r : Byte := sum.setWidth 8
  let st := setFlag st .c (decide (255 < sum.toNat))
  let st := setFlag st .z (r == 0x00)
  let st := setFlag st .n r.msb
  setFlag st .v ((~~~ (a ^^^ m) &&& (a ^^^ r)) &&& 0x80 != 0x00)

/-- The operand SBC adds: the one's complement (R161). -/
def onesComplement (m : Byte) : Byte := m ^^^ 0xFF

/-- STATUS after comparing `r` with `m` (R165 to R167). -/
def compareStatus (st r m : Byte) : Byte :=
  let st := setFlag st .c (decide (m.toNat ≤ r.toNat))
  let st := setFlag st .z (r == m)
  setFlag st .n (r - m).msb

/-- STATUS after BIT (R168): Z from A and M, V and N from M alone. -/
def bitStatus (st a m : Byte) : Byte :=
  let st := setFlag st .z ((a &&& m) == 0x00)
  let st := setFlag st .v (m.getLsbD 6)
  setFlag st .n (m.getLsbD 7)

/-- A result byte and the STATUS that goes with it. -/
structure Flagged where
  value : Byte
  status : Byte
  deriving DecidableEq, Repr

/-- INC (R169) and the register increments (R171, R172). -/
def incByte (st m : Byte) : Flagged := ⟨m + 1, setNZ st (m + 1)⟩

/-- DEC (R170) and the register decrements (R173, R174). -/
def decByte (st m : Byte) : Flagged := ⟨m - 1, setNZ st (m - 1)⟩

/-- ASL (44_shift_rotate R190). -/
def aslByte (st m : Byte) : Flagged :=
  let r := m <<< 1
  ⟨r, setCNZ st (m.getLsbD 7) r⟩

/-- LSR (R191). -/
def lsrByte (st m : Byte) : Flagged :=
  let r := m >>> 1
  ⟨r, setCNZ st (m.getLsbD 0) r⟩

/-- ROL through the carry (R192). -/
def rolByte (st m : Byte) : Flagged :=
  let r := (m <<< 1) ||| (if getFlag st .c then 0x01 else 0x00)
  ⟨r, setCNZ st (m.getLsbD 7) r⟩

/-- ROR through the carry (R193). -/
def rorByte (st m : Byte) : Flagged :=
  let r := (m >>> 1) ||| (if getFlag st .c then 0x80 else 0x00)
  ⟨r, setCNZ st (m.getLsbD 0) r⟩

end Sys2Proof.Machine
end

