-- ==== Sys2Proof/Machine/Ops.lean ====
section
/-! DEFINITION. The named operations over registers and memory, interrupt entry and return, and the host commands that
run no instruction (20_memory, 46_stack, 60_exceptions, 70_reset_and_hazards). -/

namespace Sys2Proof.Machine

/-- The byte a memory list holds at a key. -/
def Memory.lookup : Memory → Nat → Byte
  | [], _ => Config.unlistedByte
  | (k, v) :: rest, n => if k = n then v else Memory.lookup rest n

/-- A memory list without any entry for a key. -/
def Memory.erase : Memory → Nat → Memory
  | [], _ => []
  | (k, v) :: rest, n => if k = n then Memory.erase rest n else (k, v) :: Memory.erase rest n

/-- A memory list with an entry put before the first larger key. -/
def Memory.insert : Memory → Nat → Byte → Memory
  | [], n, b => [(n, b)]
  | (k, v) :: rest, n, b => if n < k then (n, b) :: (k, v) :: rest else (k, v) :: Memory.insert rest n b

/-- The bus transaction `read` (10_state R41, 20_memory R52). -/
def Memory.read (m : Memory) (addr : Word) : Byte := Memory.lookup m addr.toNat

/-- The bus transaction `write` (10_state R42, 20_memory R53). The value an unlisted address reads as removes the entry,
so that equal memories are equal lists. -/
def Memory.write (m : Memory) (addr : Word) (b : Byte) : Memory :=
  if b = Config.unlistedByte then Memory.erase m addr.toNat
  else Memory.insert (Memory.erase m addr.toNat) addr.toNat b

/-- The canonical form of the entries above a bound: rising keys inside the address space and no entry equal to what an
unlisted address reads as. -/
def Memory.wfAbove : Nat → Memory → Bool
  | _, [] => true
  | low, (k, v) :: rest =>
    decide (low ≤ k) && decide (k < 65536) && decide (v ≠ Config.unlistedByte) && Memory.wfAbove (k + 1) rest

/-- The canonical form of a memory list. -/
def Memory.wf (m : Memory) : Bool := Memory.wfAbove 0 m

/-- The bus contents the host supplies to `init`, as a memory in canonical form (70_reset R400, D20). A cell's address is
a 16-bit value (20_memory R58), so it is taken modulo 65536. -/
def Memory.ofCells (cells : List Host.Cell) : Memory :=
  cells.foldl (fun m c => Memory.write m (BitVec.ofNat 16 c.1) c.2) []

def State.setA (s : State) (v : Byte) : State := { s with a := v }
def State.setX (s : State) (v : Byte) : State := { s with x := v }
def State.setY (s : State) (v : Byte) : State := { s with y := v }
def State.setSp (s : State) (v : Byte) : State := { s with sp := v }
def State.setPc (s : State) (v : Word) : State := { s with pc := v }
def State.setStatus (s : State) (v : Byte) : State := { s with status := v }
def State.setOpcode (s : State) (v : Byte) : State := { s with opcode := v }
def State.setFetched (s : State) (v : Byte) : State := { s with fetched := v }
def State.setAddrAbs (s : State) (v : Word) : State := { s with addrAbs := v }
def State.setAddrRel (s : State) (v : Word) : State := { s with addrRel := v }
def State.setCycles (s : State) (v : Byte) : State := { s with cycles := v }
def State.setMem (s : State) (v : Memory) : State := { s with mem := v }
def State.setCommands (s : State) (v : List Command) : State := { s with commands := v }

/-- `MemRead(addr)` (20_memory R52). -/
def State.read (s : State) (addr : Word) : Byte := Memory.read s.mem addr

/-- `MemWrite(addr, v)` (20_memory R53). -/
def State.write (s : State) (addr : Word) (v : Byte) : State := s.setMem (Memory.write s.mem addr v)

/-- `Read16(addr)`: low byte at addr, high byte at addr + 1 modulo 65536 (20_memory R55). -/
def State.read16 (s : State) (addr : Word) : Word := wordOf (s.read (addr + 1)) (s.read addr)

/-- The stack address an SP value designates, in page 1 (10_state R23). -/
def stackAddr (sp : Byte) : Word := 0x0100 + zext16 sp

/-- `Push(v)` (46_stack R210). -/
def State.push (s : State) (v : Byte) : State := (s.write (stackAddr s.sp) v).setSp (s.sp - 1)

/-- `Pop()`: the state after it and the byte it returns (46_stack R211). -/
def State.pop (s : State) : State × Byte := (s.setSp (s.sp + 1), s.read (stackAddr (s.sp + 1)))

/-- `Push(hi(w)); Push(lo(w))`, the order of JSR, BRK, irq and nmi (20_memory R54, 47_control_transfer R230). -/
def State.pushWord (s : State) (w : Word) : State := (s.push (hiByte w)).push (loByte w)

/-- `lo <- Pop(); hi <- Pop()`, the order of RTS and RTI (47_control_transfer R231, 48_system R241). -/
def State.popWord (s : State) : State × Word :=
  let lo := s.pop
  let hi := lo.1.pop
  (hi.1, wordOf hi.2 lo.2)

/-- Taking an exception, the sequence BRK, irq and nmi share: PC high, PC low and a status byte are pushed, STATUS takes
its new value and PC the vector read at that moment (48_system R240, 60_exceptions R311, R313). -/
def State.takeException (s : State) (pushed live : Byte) (vector : Word) : State :=
  let s1 := ((s.pushWord s.pc).push pushed).setStatus live
  s1.setPc (s1.read16 vector)

/-- STATUS as irq and nmi leave and push it: B cleared, U and I set (60_exceptions R311). -/
def interruptStatus (st : Byte) : Byte := setFlag (setFlag (setFlag st .b false) .u true) .i true

/-- `InterruptEntry(vec)` (60_exceptions R311): the live STATUS and the pushed one are the same. -/
def State.interruptEntry (s : State) (vector : Word) : State :=
  s.takeException (interruptStatus s.status) (interruptStatus s.status) vector

/-- BRK's entry, after the padding byte is skipped (48_system R240): the pushed copy has B and U set, the live STATUS
only gains I. -/
def State.brkEntry (s : State) : State :=
  s.takeException (s.status ||| 0x30) (setFlag s.status .i true) 0xFFFE

/-- Return from an exception, RTI's sequence: STATUS with B and U cleared, then PC (48_system R241, 60_exceptions R320). -/
def State.returnFromException (s : State) : State :=
  let st := s.pop
  let pc := (st.1.setStatus (st.2 &&& 0xCF)).popWord
  pc.1.setPc pc.2

/-- NMI_VECTOR, 0xFFFA or 0xFFFE (00_scope R7, D6; log entry 3). -/
def nmiVector : Word := if Config.nmiVectorSeparate then 0xFFFA else 0xFFFE

/-- PHP_PUSH_OR, 0x30 or 0x00 (00_scope R7, D7; log entry 4). -/
def phpPushOr : Byte := if Config.phpPushesBreak then 0x30 else 0x00

/-- The host command `irq()` (60_exceptions R310). -/
def State.irq (s : State) : State :=
  if getFlag s.status .i then s else (s.interruptEntry 0xFFFE).setCycles 7

/-- The host command `nmi()` (60_exceptions R312). -/
def State.nmi (s : State) : State := (s.interruptEntry nmiVector).setCycles 8

/-- The host command `reset()` (70_reset R401 to R403). `opcode` and memory keep what they hold. -/
def State.resetCore (s : State) : State :=
  { s with
    a := 0x00, x := 0x00, y := 0x00, sp := 0xFD, status := 0x20, pc := s.read16 0xFFFC
    fetched := 0x00, addrAbs := 0x0000, addrRel := 0x0000, cycles := 8 }

/-- The power-on values on a given bus, before the reset inside `init` (70_reset R400). -/
def powerOn (bus : Memory) (commands : List Command) : State :=
  { a := 0x00, x := 0x00, y := 0x00, sp := 0xFD, pc := 0x0000, status := 0x20
    opcode := 0x00, fetched := 0x00, addrAbs := 0x0000, addrRel := 0x0000, cycles := 0
    mem := bus, commands := commands }

/-- The host command `init(bus)` (70_reset R400). The host keeps its own list of commands. -/
def State.init (s : State) (bus : List Host.Cell) : State := (powerOn (Memory.ofCells bus) s.commands).resetCore

end Sys2Proof.Machine
end

