-- ==== Sys2Proof/Machine/Operands.lean ====
section
/-! DEFINITION. The addressing-mode resolver, the operand fetch and the pulse that runs a whole instruction
(41_addressing_modes, 40_execution_engine). -/

namespace Sys2Proof.Machine

/-- `ReadZP16(p)`: a pointer in the zero page, wrapping within it (41_addressing_modes R133). -/
def State.readZP16 (s : State) (p : Byte) : Word := wordOf (s.read (zext16 (p + 1))) (s.read (zext16 p))

/-- The word at an Indirect pointer: the high byte comes from the start of the same page when the pointer's low byte is
0xFF (R129). -/
def State.readIndirect (s : State) (p : Word) : Word :=
  if loByte p = 0xFF then wordOf (s.read (p &&& 0xFF00)) (s.read p)
  else wordOf (s.read (p + 1)) (s.read p)

/-- The number of operand bytes a mode fetches after the opcode, as an advance of PC (30_encoding R71). -/
def operandAdvance (m : Mode) : Word := BitVec.ofNat 16 m.operandBytes.length

/-- The effective address a mode computes (R121 to R131). In IMM it is PC, which then holds the address of the value
(R123). IMP, ACC, REL and ILL compute none: `addr_abs` keeps what it holds. -/
def State.ea (s : State) (m : Mode) : Word :=
  match m with
  | .imm _ => s.pc
  | .zp b => zext16 b &&& 0x00FF
  | .zpx b => (zext16 b + zext16 s.x) &&& 0x00FF
  | .zpy b => (zext16 b + zext16 s.y) &&& 0x00FF
  | .abs w => w
  | .abx w => w + zext16 s.x
  | .aby w => w + zext16 s.y
  | .ind w => s.readIndirect w
  | .izx b => s.readZP16 (b + s.x)
  | .izy b => s.readZP16 b + zext16 s.y
  | .imp | .acc | .rel _ | .ill => s.addrAbs

/-- e1, the page-crossing signal: the indexed address lies on another page than its base (R127, R131, R135). -/
def State.crosses (s : State) (m : Mode) : Bool :=
  match m with
  | .abx w | .aby w => hiByte (s.ea m) != hiByte w
  | .izy b => hiByte (s.ea m) != hiByte (s.readZP16 b)
  | .imp | .acc | .imm _ | .zp _ | .zpx _ | .zpy _ | .abs _ | .ind _ | .izx _ | .rel _ | .ill => false

/-- `Resolve(mode)`: the state after it and e1 (40_execution_engine R102, 41_addressing_modes R120 to R134). The operand
bytes were read with the opcode; PC moves past them here. -/
def State.resolve (s : State) (m : Mode) : State × Bool :=
  match m with
  | .imp | .acc => (s.setFetched s.a, false)
  | .ill => (s, false)
  | .rel o => ((s.setAddrRel (sext16 o)).setPc (s.pc + operandAdvance m), false)
  | .imm _ | .zp _ | .zpx _ | .zpy _ | .abs _ | .abx _ | .aby _ | .ind _ | .izx _ | .izy _ =>
    ((s.setAddrAbs (s.ea m)).setPc (s.pc + operandAdvance m), s.crosses m)

/-- `FetchOperand()`: the state after it and the operand (R132). DEDUCED: in IMM the operand is the decoded byte, which
is the byte at `addr_abs` whenever the instruction was decoded at PC (log entry 6). -/
def State.fetchOperand (s : State) (m : Mode) : State × Byte :=
  match m with
  | .imp | .acc => (s, s.fetched)
  | .imm v => (s.setFetched v, v)
  | .zp _ | .zpx _ | .zpy _ | .abs _ | .abx _ | .aby _ | .ind _ | .izx _ | .izy _ | .rel _ | .ill =>
    (s.setFetched (s.read s.addrAbs), s.read s.addrAbs)

/-- `WriteBack(r)` of the shifts: A in ACC, the byte at the effective address otherwise (44_shift_rotate). -/
def State.writeBack (s : State) (m : Mode) (r : Byte) : State :=
  match m with
  | .acc => s.setA r
  | .imp | .imm _ | .zp _ | .zpx _ | .zpy _ | .abs _ | .abx _ | .aby _ | .ind _ | .izx _ | .izy _ | .rel _ | .ill =>
    s.write s.addrAbs r

/-- An operation of the operation set: from the mode and the resolved state to the state after it and e2
(40_execution_engine R103). -/
abbrev Operation := Mode → State → State × Bool

/-- The opcode fetch and the load of the counter (R100, R101, R109): the opcode byte is recorded and PC moves past it. -/
def State.beginInstr (s : State) (opcode base : Byte) : State :=
  ((s.setOpcode opcode).setPc (s.pc + 1)).setCycles base

/-- The `clock()` call that fetches an instruction: opcode, base cycles, Resolve, Execute, one cycle more when e1 and e2
both hold, and the decrement (R100 to R106). -/
def pulse (opcode base : Byte) (m : Mode) (op : Operation) (s : State) : State :=
  let r := (s.beginInstr opcode base).resolve m
  let e := op m r.1
  let s3 := if r.2 && e.2 then e.1.setCycles (e.1.cycles + 1) else e.1
  s3.setCycles (s3.cycles - 1)

end Sys2Proof.Machine
end

