-- ==== Sys2Proof/Machine/Arith.lean ====
section
/-! DEFINITION. Arithmetic, logic, compare and increment (43_arithmetic_logic).
First the operations, then one meaning for each row of the opcode table: the pulse with its opcode byte, base cycles and
mode (30_encoding R73). -/

namespace Sys2Proof.Machine

/-- ADC, e2 true (R160). -/
def opAdc : Operation := fun m s =>
  let f := s.fetchOperand m
  ((f.1.setA (addResult s.status s.a f.2)).setStatus (addStatus s.status s.a f.2), true)

/-- SBC: ADC of the operand's one's complement, e2 true (R161). -/
def opSbc : Operation := fun m s =>
  let f := s.fetchOperand m
  let w := onesComplement f.2
  ((f.1.setA (addResult s.status s.a w)).setStatus (addStatus s.status s.a w), true)

/-- AND: `A <- A & M; SetNZ(A)`, e2 true (R162). -/
def opAnd : Operation := fun m s =>
  let f := s.fetchOperand m
  ((f.1.setA (s.a &&& f.2)).setStatus (setNZ s.status (s.a &&& f.2)), true)

/-- ORA: `A <- A | M; SetNZ(A)`, e2 true (R163). -/
def opOra : Operation := fun m s =>
  let f := s.fetchOperand m
  ((f.1.setA (s.a ||| f.2)).setStatus (setNZ s.status (s.a ||| f.2)), true)

/-- EOR: `A <- A ^ M; SetNZ(A)`, e2 true (R164). -/
def opEor : Operation := fun m s =>
  let f := s.fetchOperand m
  ((f.1.setA (s.a ^^^ f.2)).setStatus (setNZ s.status (s.a ^^^ f.2)), true)

/-- CMP: the flags of A - M, e2 true (R165). -/
def opCmp : Operation := fun m s =>
  let f := s.fetchOperand m
  (f.1.setStatus (compareStatus s.status s.a f.2), true)

/-- CPX: the flags of X - M, e2 false (R166). -/
def opCpx : Operation := fun m s =>
  let f := s.fetchOperand m
  (f.1.setStatus (compareStatus s.status s.x f.2), false)

/-- CPY: the flags of Y - M, e2 false (R167). -/
def opCpy : Operation := fun m s =>
  let f := s.fetchOperand m
  (f.1.setStatus (compareStatus s.status s.y f.2), false)

/-- BIT, e2 false (R168). -/
def opBit : Operation := fun m s =>
  let f := s.fetchOperand m
  (f.1.setStatus (bitStatus s.status s.a f.2), false)

/-- INC: one read and one write of EA, e2 false (R169). -/
def opInc : Operation := fun m s =>
  let f := s.fetchOperand m
  let r := incByte s.status f.2
  ((f.1.write s.addrAbs r.value).setStatus r.status, false)

/-- DEC: one read and one write of EA, e2 false (R170). -/
def opDec : Operation := fun m s =>
  let f := s.fetchOperand m
  let r := decByte s.status f.2
  ((f.1.write s.addrAbs r.value).setStatus r.status, false)

/-- INX (R171). -/
def opInx : Operation := fun _ s =>
  let r := incByte s.status s.x
  ((s.setX r.value).setStatus r.status, false)

/-- INY (R172). -/
def opIny : Operation := fun _ s =>
  let r := incByte s.status s.y
  ((s.setY r.value).setStatus r.status, false)

/-- DEX (R173). -/
def opDex : Operation := fun _ s =>
  let r := decByte s.status s.x
  ((s.setX r.value).setStatus r.status, false)

/-- DEY (R174). -/
def opDey : Operation := fun _ s =>
  let r := decByte s.status s.y
  ((s.setY r.value).setStatus r.status, false)

/-- ADC IMM, 69/2 (R160). -/
def execAdcImm (v : Byte) (s : State) : Result := .next (pulse 0x69 2 (.imm v) opAdc s)

/-- ADC ZP, 65/3 (R160). -/
def execAdcZp (b : Byte) (s : State) : Result := .next (pulse 0x65 3 (.zp b) opAdc s)

/-- ADC ZPX, 75/4 (R160). -/
def execAdcZpx (b : Byte) (s : State) : Result := .next (pulse 0x75 4 (.zpx b) opAdc s)

/-- ADC ABS, 6D/4 (R160). -/
def execAdcAbs (w : Word) (s : State) : Result := .next (pulse 0x6D 4 (.abs w) opAdc s)

/-- ADC ABX, 7D/4 (R160). -/
def execAdcAbx (w : Word) (s : State) : Result := .next (pulse 0x7D 4 (.abx w) opAdc s)

/-- ADC ABY, 79/4 (R160). -/
def execAdcAby (w : Word) (s : State) : Result := .next (pulse 0x79 4 (.aby w) opAdc s)

/-- ADC IZX, 61/6 (R160). -/
def execAdcIzx (b : Byte) (s : State) : Result := .next (pulse 0x61 6 (.izx b) opAdc s)

/-- ADC IZY, 71/5 (R160). -/
def execAdcIzy (b : Byte) (s : State) : Result := .next (pulse 0x71 5 (.izy b) opAdc s)

/-- SBC IMM, E9/2 (R161). -/
def execSbcImm (v : Byte) (s : State) : Result := .next (pulse 0xE9 2 (.imm v) opSbc s)

/-- SBC ZP, E5/3 (R161). -/
def execSbcZp (b : Byte) (s : State) : Result := .next (pulse 0xE5 3 (.zp b) opSbc s)

/-- SBC ZPX, F5/4 (R161). -/
def execSbcZpx (b : Byte) (s : State) : Result := .next (pulse 0xF5 4 (.zpx b) opSbc s)

/-- SBC ABS, ED/4 (R161). -/
def execSbcAbs (w : Word) (s : State) : Result := .next (pulse 0xED 4 (.abs w) opSbc s)

/-- SBC ABX, FD/4 (R161). -/
def execSbcAbx (w : Word) (s : State) : Result := .next (pulse 0xFD 4 (.abx w) opSbc s)

/-- SBC ABY, F9/4 (R161). -/
def execSbcAby (w : Word) (s : State) : Result := .next (pulse 0xF9 4 (.aby w) opSbc s)

/-- SBC IZX, E1/6 (R161). -/
def execSbcIzx (b : Byte) (s : State) : Result := .next (pulse 0xE1 6 (.izx b) opSbc s)

/-- SBC IZY, F1/5 (R161). -/
def execSbcIzy (b : Byte) (s : State) : Result := .next (pulse 0xF1 5 (.izy b) opSbc s)

/-- AND IMM, 29/2 (R162). -/
def execAndImm (v : Byte) (s : State) : Result := .next (pulse 0x29 2 (.imm v) opAnd s)

/-- AND ZP, 25/3 (R162). -/
def execAndZp (b : Byte) (s : State) : Result := .next (pulse 0x25 3 (.zp b) opAnd s)

/-- AND ZPX, 35/4 (R162). -/
def execAndZpx (b : Byte) (s : State) : Result := .next (pulse 0x35 4 (.zpx b) opAnd s)

/-- AND ABS, 2D/4 (R162). -/
def execAndAbs (w : Word) (s : State) : Result := .next (pulse 0x2D 4 (.abs w) opAnd s)

/-- AND ABX, 3D/4 (R162). -/
def execAndAbx (w : Word) (s : State) : Result := .next (pulse 0x3D 4 (.abx w) opAnd s)

/-- AND ABY, 39/4 (R162). -/
def execAndAby (w : Word) (s : State) : Result := .next (pulse 0x39 4 (.aby w) opAnd s)

/-- AND IZX, 21/6 (R162). -/
def execAndIzx (b : Byte) (s : State) : Result := .next (pulse 0x21 6 (.izx b) opAnd s)

/-- AND IZY, 31/5 (R162). -/
def execAndIzy (b : Byte) (s : State) : Result := .next (pulse 0x31 5 (.izy b) opAnd s)

/-- ORA IMM, 09/2 (R163). -/
def execOraImm (v : Byte) (s : State) : Result := .next (pulse 0x09 2 (.imm v) opOra s)

/-- ORA ZP, 05/3 (R163). -/
def execOraZp (b : Byte) (s : State) : Result := .next (pulse 0x05 3 (.zp b) opOra s)

/-- ORA ZPX, 15/4 (R163). -/
def execOraZpx (b : Byte) (s : State) : Result := .next (pulse 0x15 4 (.zpx b) opOra s)

/-- ORA ABS, 0D/4 (R163). -/
def execOraAbs (w : Word) (s : State) : Result := .next (pulse 0x0D 4 (.abs w) opOra s)

/-- ORA ABX, 1D/4 (R163). -/
def execOraAbx (w : Word) (s : State) : Result := .next (pulse 0x1D 4 (.abx w) opOra s)

/-- ORA ABY, 19/4 (R163). -/
def execOraAby (w : Word) (s : State) : Result := .next (pulse 0x19 4 (.aby w) opOra s)

/-- ORA IZX, 01/6 (R163). -/
def execOraIzx (b : Byte) (s : State) : Result := .next (pulse 0x01 6 (.izx b) opOra s)

/-- ORA IZY, 11/5 (R163). -/
def execOraIzy (b : Byte) (s : State) : Result := .next (pulse 0x11 5 (.izy b) opOra s)

/-- EOR IMM, 49/2 (R164). -/
def execEorImm (v : Byte) (s : State) : Result := .next (pulse 0x49 2 (.imm v) opEor s)

/-- EOR ZP, 45/3 (R164). -/
def execEorZp (b : Byte) (s : State) : Result := .next (pulse 0x45 3 (.zp b) opEor s)

/-- EOR ZPX, 55/4 (R164). -/
def execEorZpx (b : Byte) (s : State) : Result := .next (pulse 0x55 4 (.zpx b) opEor s)

/-- EOR ABS, 4D/4 (R164). -/
def execEorAbs (w : Word) (s : State) : Result := .next (pulse 0x4D 4 (.abs w) opEor s)

/-- EOR ABX, 5D/4 (R164). -/
def execEorAbx (w : Word) (s : State) : Result := .next (pulse 0x5D 4 (.abx w) opEor s)

/-- EOR ABY, 59/4 (R164). -/
def execEorAby (w : Word) (s : State) : Result := .next (pulse 0x59 4 (.aby w) opEor s)

/-- EOR IZX, 41/6 (R164). -/
def execEorIzx (b : Byte) (s : State) : Result := .next (pulse 0x41 6 (.izx b) opEor s)

/-- EOR IZY, 51/5 (R164). -/
def execEorIzy (b : Byte) (s : State) : Result := .next (pulse 0x51 5 (.izy b) opEor s)

/-- CMP IMM, C9/2 (R165). -/
def execCmpImm (v : Byte) (s : State) : Result := .next (pulse 0xC9 2 (.imm v) opCmp s)

/-- CMP ZP, C5/3 (R165). -/
def execCmpZp (b : Byte) (s : State) : Result := .next (pulse 0xC5 3 (.zp b) opCmp s)

/-- CMP ZPX, D5/4 (R165). -/
def execCmpZpx (b : Byte) (s : State) : Result := .next (pulse 0xD5 4 (.zpx b) opCmp s)

/-- CMP ABS, CD/4 (R165). -/
def execCmpAbs (w : Word) (s : State) : Result := .next (pulse 0xCD 4 (.abs w) opCmp s)

/-- CMP ABX, DD/4 (R165). -/
def execCmpAbx (w : Word) (s : State) : Result := .next (pulse 0xDD 4 (.abx w) opCmp s)

/-- CMP ABY, D9/4 (R165). -/
def execCmpAby (w : Word) (s : State) : Result := .next (pulse 0xD9 4 (.aby w) opCmp s)

/-- CMP IZX, C1/6 (R165). -/
def execCmpIzx (b : Byte) (s : State) : Result := .next (pulse 0xC1 6 (.izx b) opCmp s)

/-- CMP IZY, D1/5 (R165). -/
def execCmpIzy (b : Byte) (s : State) : Result := .next (pulse 0xD1 5 (.izy b) opCmp s)

/-- CPX IMM, E0/2 (R166). -/
def execCpxImm (v : Byte) (s : State) : Result := .next (pulse 0xE0 2 (.imm v) opCpx s)

/-- CPX ZP, E4/3 (R166). -/
def execCpxZp (b : Byte) (s : State) : Result := .next (pulse 0xE4 3 (.zp b) opCpx s)

/-- CPX ABS, EC/4 (R166). -/
def execCpxAbs (w : Word) (s : State) : Result := .next (pulse 0xEC 4 (.abs w) opCpx s)

/-- CPY IMM, C0/2 (R167). -/
def execCpyImm (v : Byte) (s : State) : Result := .next (pulse 0xC0 2 (.imm v) opCpy s)

/-- CPY ZP, C4/3 (R167). -/
def execCpyZp (b : Byte) (s : State) : Result := .next (pulse 0xC4 3 (.zp b) opCpy s)

/-- CPY ABS, CC/4 (R167). -/
def execCpyAbs (w : Word) (s : State) : Result := .next (pulse 0xCC 4 (.abs w) opCpy s)

/-- BIT ZP, 24/3 (R168). -/
def execBitZp (b : Byte) (s : State) : Result := .next (pulse 0x24 3 (.zp b) opBit s)

/-- BIT ABS, 2C/4 (R168). -/
def execBitAbs (w : Word) (s : State) : Result := .next (pulse 0x2C 4 (.abs w) opBit s)

/-- INC ZP, E6/5 (R169). -/
def execIncZp (b : Byte) (s : State) : Result := .next (pulse 0xE6 5 (.zp b) opInc s)

/-- INC ZPX, F6/6 (R169). -/
def execIncZpx (b : Byte) (s : State) : Result := .next (pulse 0xF6 6 (.zpx b) opInc s)

/-- INC ABS, EE/6 (R169). -/
def execIncAbs (w : Word) (s : State) : Result := .next (pulse 0xEE 6 (.abs w) opInc s)

/-- INC ABX, FE/7 (R169). -/
def execIncAbx (w : Word) (s : State) : Result := .next (pulse 0xFE 7 (.abx w) opInc s)

/-- DEC ZP, C6/5 (R170). -/
def execDecZp (b : Byte) (s : State) : Result := .next (pulse 0xC6 5 (.zp b) opDec s)

/-- DEC ZPX, D6/6 (R170). -/
def execDecZpx (b : Byte) (s : State) : Result := .next (pulse 0xD6 6 (.zpx b) opDec s)

/-- DEC ABS, CE/6 (R170). -/
def execDecAbs (w : Word) (s : State) : Result := .next (pulse 0xCE 6 (.abs w) opDec s)

/-- DEC ABX, DE/7 (R170). -/
def execDecAbx (w : Word) (s : State) : Result := .next (pulse 0xDE 7 (.abx w) opDec s)

/-- INX IMP, E8/2 (R171). -/
def execInx (s : State) : Result := .next (pulse 0xE8 2 .imp opInx s)

/-- INY IMP, C8/2 (R172). -/
def execIny (s : State) : Result := .next (pulse 0xC8 2 .imp opIny s)

/-- DEX IMP, CA/2 (R173). -/
def execDex (s : State) : Result := .next (pulse 0xCA 2 .imp opDex s)

/-- DEY IMP, 88/2 (R174). -/
def execDey (s : State) : Result := .next (pulse 0x88 2 .imp opDey s)

end Sys2Proof.Machine
end

