-- ==== Sys2Proof/Machine/Control.lean ====
section
/-! DEFINITION. Branches, jumps, calls and returns (47_control_transfer).
First the operations, then one meaning for each row of the opcode table: the pulse with its opcode byte, base cycles and
mode (30_encoding R73). -/

namespace Sys2Proof.Machine

/-- `Branch(cond)`: a taken branch adds a cycle, and another when its target lies on another page than the next instruction;
e2 is false (R220). -/
def branch (cond : Bool) (s : State) : State × Bool :=
  if cond then
    let target := s.pc + s.addrRel
    let s1 := s.setCycles (s.cycles + 1)
    let s2 := if hiByte target != hiByte s.pc then s1.setCycles (s1.cycles + 1) else s1
    (s2.setPc target, false)
  else (s, false)

/-- BCC: taken when C = 0 (R221). -/
def opBcc : Operation := fun _ s => branch (!getFlag s.status .c) s

/-- BCS: taken when C = 1 (R222). -/
def opBcs : Operation := fun _ s => branch (getFlag s.status .c) s

/-- BEQ: taken when Z = 1 (R223). -/
def opBeq : Operation := fun _ s => branch (getFlag s.status .z) s

/-- BMI: taken when N = 1 (R224). -/
def opBmi : Operation := fun _ s => branch (getFlag s.status .n) s

/-- BNE: taken when Z = 0 (R225). -/
def opBne : Operation := fun _ s => branch (!getFlag s.status .z) s

/-- BPL: taken when N = 0 (R226). -/
def opBpl : Operation := fun _ s => branch (!getFlag s.status .n) s

/-- BVC: taken when V = 0 (R227). -/
def opBvc : Operation := fun _ s => branch (!getFlag s.status .v) s

/-- BVS: taken when V = 1 (R228). -/
def opBvs : Operation := fun _ s => branch (getFlag s.status .v) s

/-- JMP: `PC <- addr_abs` (R229). -/
def opJmp : Operation := fun _ s => (s.setPc s.addrAbs, false)

/-- JSR: pushes PC - 1, the address of its own last byte, high then low; `PC <- addr_abs` (R230). -/
def opJsr : Operation := fun _ s => ((s.pushWord (s.pc - 1)).setPc s.addrAbs, false)

/-- RTS: pops low then high and adds 1 (R231). -/
def opRts : Operation := fun _ s =>
  let p := s.popWord
  (p.1.setPc (p.2 + 1), false)

/-- BCC REL, 90/2 (R221). -/
def execBcc (o : Byte) (s : State) : Result := .next (pulse 0x90 2 (.rel o) opBcc s)

/-- BCS REL, B0/2 (R222). -/
def execBcs (o : Byte) (s : State) : Result := .next (pulse 0xB0 2 (.rel o) opBcs s)

/-- BEQ REL, F0/2 (R223). -/
def execBeq (o : Byte) (s : State) : Result := .next (pulse 0xF0 2 (.rel o) opBeq s)

/-- BMI REL, 30/2 (R224). -/
def execBmi (o : Byte) (s : State) : Result := .next (pulse 0x30 2 (.rel o) opBmi s)

/-- BNE REL, D0/2 (R225). -/
def execBne (o : Byte) (s : State) : Result := .next (pulse 0xD0 2 (.rel o) opBne s)

/-- BPL REL, 10/2 (R226). -/
def execBpl (o : Byte) (s : State) : Result := .next (pulse 0x10 2 (.rel o) opBpl s)

/-- BVC REL, 50/2 (R227). -/
def execBvc (o : Byte) (s : State) : Result := .next (pulse 0x50 2 (.rel o) opBvc s)

/-- BVS REL, 70/2 (R228). -/
def execBvs (o : Byte) (s : State) : Result := .next (pulse 0x70 2 (.rel o) opBvs s)

/-- JMP ABS, 4C/3 (R229). -/
def execJmpAbs (w : Word) (s : State) : Result := .next (pulse 0x4C 3 (.abs w) opJmp s)

/-- JMP IND, 6C/5 (R229). -/
def execJmpInd (w : Word) (s : State) : Result := .next (pulse 0x6C 5 (.ind w) opJmp s)

/-- JSR ABS, 20/6 (R230). -/
def execJsr (w : Word) (s : State) : Result := .next (pulse 0x20 6 (.abs w) opJsr s)

/-- RTS IMP, 60/6 (R231). -/
def execRts (s : State) : Result := .next (pulse 0x60 6 .imp opRts s)

end Sys2Proof.Machine
end

