-- ==== Sys2Proof/Machine/FlagOps.lean ====
section
/-! DEFINITION. The flag instructions: each writes one bit of STATUS (45_flag_instructions).
First the operations, then one meaning for each row of the opcode table: the pulse with its opcode byte, base cycles and
mode (30_encoding R73). -/

namespace Sys2Proof.Machine

/-- CLC: `C <- 0` (R200). -/
def opClc : Operation := fun _ s => (s.setStatus (setFlag s.status .c false), false)

/-- CLD: `D <- 0` (R201). -/
def opCld : Operation := fun _ s => (s.setStatus (setFlag s.status .d false), false)

/-- CLI: `I <- 0` (R202). -/
def opCli : Operation := fun _ s => (s.setStatus (setFlag s.status .i false), false)

/-- CLV: `V <- 0` (R203). -/
def opClv : Operation := fun _ s => (s.setStatus (setFlag s.status .v false), false)

/-- SEC: `C <- 1` (R204). -/
def opSec : Operation := fun _ s => (s.setStatus (setFlag s.status .c true), false)

/-- SED: `D <- 1` (R205). -/
def opSed : Operation := fun _ s => (s.setStatus (setFlag s.status .d true), false)

/-- SEI: `I <- 1` (R206). -/
def opSei : Operation := fun _ s => (s.setStatus (setFlag s.status .i true), false)

/-- CLC IMP, 18/2 (R200). -/
def execClc (s : State) : Result := .next (pulse 0x18 2 .imp opClc s)

/-- CLD IMP, D8/2 (R201). -/
def execCld (s : State) : Result := .next (pulse 0xD8 2 .imp opCld s)

/-- CLI IMP, 58/2 (R202). -/
def execCli (s : State) : Result := .next (pulse 0x58 2 .imp opCli s)

/-- CLV IMP, B8/2 (R203). -/
def execClv (s : State) : Result := .next (pulse 0xB8 2 .imp opClv s)

/-- SEC IMP, 38/2 (R204). -/
def execSec (s : State) : Result := .next (pulse 0x38 2 .imp opSec s)

/-- SED IMP, F8/2 (R205). -/
def execSed (s : State) : Result := .next (pulse 0xF8 2 .imp opSed s)

/-- SEI IMP, 78/2 (R206). -/
def execSei (s : State) : Result := .next (pulse 0x78 2 .imp opSei s)

end Sys2Proof.Machine
end

