-- ==== Sys2Proof/Machine/LoadStore.lean ====
section
/-! DEFINITION. Loads, stores and register transfers (42_load_store_transfer).
First the operations, then one meaning for each row of the opcode table: the pulse with its opcode byte, base cycles and
mode (30_encoding R73). -/

namespace Sys2Proof.Machine

/-- LDA: `A <- M; SetNZ(A)`, e2 true (R140). -/
def opLda : Operation := fun m s =>
  let f := s.fetchOperand m
  ((f.1.setA f.2).setStatus (setNZ s.status f.2), true)

/-- LDX: `X <- M; SetNZ(X)`, e2 true (R141). -/
def opLdx : Operation := fun m s =>
  let f := s.fetchOperand m
  ((f.1.setX f.2).setStatus (setNZ s.status f.2), true)

/-- LDY: `Y <- M; SetNZ(Y)`, e2 true (R142). -/
def opLdy : Operation := fun m s =>
  let f := s.fetchOperand m
  ((f.1.setY f.2).setStatus (setNZ s.status f.2), true)

/-- STA: `MemWrite(EA, A)`, e2 false; the byte at EA is not read (R143, 20_memory R67). -/
def opSta : Operation := fun _ s => (s.write s.addrAbs s.a, false)

/-- STX: `MemWrite(EA, X)`, e2 false (R144). -/
def opStx : Operation := fun _ s => (s.write s.addrAbs s.x, false)

/-- STY: `MemWrite(EA, Y)`, e2 false (R145). -/
def opSty : Operation := fun _ s => (s.write s.addrAbs s.y, false)

/-- TAX: `X <- A; SetNZ(X)` (R146). -/
def opTax : Operation := fun _ s => ((s.setX s.a).setStatus (setNZ s.status s.a), false)

/-- TAY: `Y <- A; SetNZ(Y)` (R147). -/
def opTay : Operation := fun _ s => ((s.setY s.a).setStatus (setNZ s.status s.a), false)

/-- TXA: `A <- X; SetNZ(A)` (R148). -/
def opTxa : Operation := fun _ s => ((s.setA s.x).setStatus (setNZ s.status s.x), false)

/-- TYA: `A <- Y; SetNZ(A)` (R149). -/
def opTya : Operation := fun _ s => ((s.setA s.y).setStatus (setNZ s.status s.y), false)

/-- TSX: `X <- SP; SetNZ(X)` (R150). -/
def opTsx : Operation := fun _ s => ((s.setX s.sp).setStatus (setNZ s.status s.sp), false)

/-- TXS: `SP <- X`, no flag (R151). -/
def opTxs : Operation := fun _ s => (s.setSp s.x, false)

/-- LDA IMM, A9/2 (R140). -/
def execLdaImm (v : Byte) (s : State) : Result := .next (pulse 0xA9 2 (.imm v) opLda s)

/-- LDA ZP, A5/3 (R140). -/
def execLdaZp (b : Byte) (s : State) : Result := .next (pulse 0xA5 3 (.zp b) opLda s)

/-- LDA ZPX, B5/4 (R140). -/
def execLdaZpx (b : Byte) (s : State) : Result := .next (pulse 0xB5 4 (.zpx b) opLda s)

/-- LDA ABS, AD/4 (R140). -/
def execLdaAbs (w : Word) (s : State) : Result := .next (pulse 0xAD 4 (.abs w) opLda s)

/-- LDA ABX, BD/4 (R140). -/
def execLdaAbx (w : Word) (s : State) : Result := .next (pulse 0xBD 4 (.abx w) opLda s)

/-- LDA ABY, B9/4 (R140). -/
def execLdaAby (w : Word) (s : State) : Result := .next (pulse 0xB9 4 (.aby w) opLda s)

/-- LDA IZX, A1/6 (R140). -/
def execLdaIzx (b : Byte) (s : State) : Result := .next (pulse 0xA1 6 (.izx b) opLda s)

/-- LDA IZY, B1/5 (R140). -/
def execLdaIzy (b : Byte) (s : State) : Result := .next (pulse 0xB1 5 (.izy b) opLda s)

/-- LDX IMM, A2/2 (R141). -/
def execLdxImm (v : Byte) (s : State) : Result := .next (pulse 0xA2 2 (.imm v) opLdx s)

/-- LDX ZP, A6/3 (R141). -/
def execLdxZp (b : Byte) (s : State) : Result := .next (pulse 0xA6 3 (.zp b) opLdx s)

/-- LDX ZPY, B6/4 (R141). -/
def execLdxZpy (b : Byte) (s : State) : Result := .next (pulse 0xB6 4 (.zpy b) opLdx s)

/-- LDX ABS, AE/4 (R141). -/
def execLdxAbs (w : Word) (s : State) : Result := .next (pulse 0xAE 4 (.abs w) opLdx s)

/-- LDX ABY, BE/4 (R141). -/
def execLdxAby (w : Word) (s : State) : Result := .next (pulse 0xBE 4 (.aby w) opLdx s)

/-- LDY IMM, A0/2 (R142). -/
def execLdyImm (v : Byte) (s : State) : Result := .next (pulse 0xA0 2 (.imm v) opLdy s)

/-- LDY ZP, A4/3 (R142). -/
def execLdyZp (b : Byte) (s : State) : Result := .next (pulse 0xA4 3 (.zp b) opLdy s)

/-- LDY ZPX, B4/4 (R142). -/
def execLdyZpx (b : Byte) (s : State) : Result := .next (pulse 0xB4 4 (.zpx b) opLdy s)

/-- LDY ABS, AC/4 (R142). -/
def execLdyAbs (w : Word) (s : State) : Result := .next (pulse 0xAC 4 (.abs w) opLdy s)

/-- LDY ABX, BC/4 (R142). -/
def execLdyAbx (w : Word) (s : State) : Result := .next (pulse 0xBC 4 (.abx w) opLdy s)

/-- STA ZP, 85/3 (R143). -/
def execStaZp (b : Byte) (s : State) : Result := .next (pulse 0x85 3 (.zp b) opSta s)

/-- STA ZPX, 95/4 (R143). -/
def execStaZpx (b : Byte) (s : State) : Result := .next (pulse 0x95 4 (.zpx b) opSta s)

/-- STA ABS, 8D/4 (R143). -/
def execStaAbs (w : Word) (s : State) : Result := .next (pulse 0x8D 4 (.abs w) opSta s)

/-- STA ABX, 9D/5 (R143). -/
def execStaAbx (w : Word) (s : State) : Result := .next (pulse 0x9D 5 (.abx w) opSta s)

/-- STA ABY, 99/5 (R143). -/
def execStaAby (w : Word) (s : State) : Result := .next (pulse 0x99 5 (.aby w) opSta s)

/-- STA IZX, 81/6 (R143). -/
def execStaIzx (b : Byte) (s : State) : Result := .next (pulse 0x81 6 (.izx b) opSta s)

/-- STA IZY, 91/6 (R143). -/
def execStaIzy (b : Byte) (s : State) : Result := .next (pulse 0x91 6 (.izy b) opSta s)

/-- STX ZP, 86/3 (R144). -/
def execStxZp (b : Byte) (s : State) : Result := .next (pulse 0x86 3 (.zp b) opStx s)

/-- STX ZPY, 96/4 (R144). -/
def execStxZpy (b : Byte) (s : State) : Result := .next (pulse 0x96 4 (.zpy b) opStx s)

/-- STX ABS, 8E/4 (R144). -/
def execStxAbs (w : Word) (s : State) : Result := .next (pulse 0x8E 4 (.abs w) opStx s)

/-- STY ZP, 84/3 (R145). -/
def execStyZp (b : Byte) (s : State) : Result := .next (pulse 0x84 3 (.zp b) opSty s)

/-- STY ZPX, 94/4 (R145). -/
def execStyZpx (b : Byte) (s : State) : Result := .next (pulse 0x94 4 (.zpx b) opSty s)

/-- STY ABS, 8C/4 (R145). -/
def execStyAbs (w : Word) (s : State) : Result := .next (pulse 0x8C 4 (.abs w) opSty s)

/-- TAX IMP, AA/2 (R146). -/
def execTax (s : State) : Result := .next (pulse 0xAA 2 .imp opTax s)

/-- TAY IMP, A8/2 (R147). -/
def execTay (s : State) : Result := .next (pulse 0xA8 2 .imp opTay s)

/-- TXA IMP, 8A/2 (R148). -/
def execTxa (s : State) : Result := .next (pulse 0x8A 2 .imp opTxa s)

/-- TYA IMP, 98/2 (R149). -/
def execTya (s : State) : Result := .next (pulse 0x98 2 .imp opTya s)

/-- TSX IMP, BA/2 (R150). -/
def execTsx (s : State) : Result := .next (pulse 0xBA 2 .imp opTsx s)

/-- TXS IMP, 9A/2 (R151). -/
def execTxs (s : State) : Result := .next (pulse 0x9A 2 .imp opTxs s)

end Sys2Proof.Machine
end

