-- ==== Sys2Proof/Machine/Shift.lean ====
section
/-! DEFINITION. Shifts and rotates, by one bit, on A or on memory (44_shift_rotate).
First the operations, then one meaning for each row of the opcode table: the pulse with its opcode byte, base cycles and
mode (30_encoding R73). -/

namespace Sys2Proof.Machine

/-- ASL, e2 false (R190). -/
def opAsl : Operation := fun m s =>
  let f := s.fetchOperand m
  let r := aslByte s.status f.2
  ((f.1.writeBack m r.value).setStatus r.status, false)

/-- LSR, e2 false (R191). -/
def opLsr : Operation := fun m s =>
  let f := s.fetchOperand m
  let r := lsrByte s.status f.2
  ((f.1.writeBack m r.value).setStatus r.status, false)

/-- ROL, e2 false (R192). -/
def opRol : Operation := fun m s =>
  let f := s.fetchOperand m
  let r := rolByte s.status f.2
  ((f.1.writeBack m r.value).setStatus r.status, false)

/-- ROR, e2 false (R193). -/
def opRor : Operation := fun m s =>
  let f := s.fetchOperand m
  let r := rorByte s.status f.2
  ((f.1.writeBack m r.value).setStatus r.status, false)

/-- ASL ACC, 0A/2 (R190). -/
def execAslAcc (s : State) : Result := .next (pulse 0x0A 2 .acc opAsl s)

/-- ASL ZP, 06/5 (R190). -/
def execAslZp (b : Byte) (s : State) : Result := .next (pulse 0x06 5 (.zp b) opAsl s)

/-- ASL ZPX, 16/6 (R190). -/
def execAslZpx (b : Byte) (s : State) : Result := .next (pulse 0x16 6 (.zpx b) opAsl s)

/-- ASL ABS, 0E/6 (R190). -/
def execAslAbs (w : Word) (s : State) : Result := .next (pulse 0x0E 6 (.abs w) opAsl s)

/-- ASL ABX, 1E/7 (R190). -/
def execAslAbx (w : Word) (s : State) : Result := .next (pulse 0x1E 7 (.abx w) opAsl s)

/-- LSR ACC, 4A/2 (R191). -/
def execLsrAcc (s : State) : Result := .next (pulse 0x4A 2 .acc opLsr s)

/-- LSR ZP, 46/5 (R191). -/
def execLsrZp (b : Byte) (s : State) : Result := .next (pulse 0x46 5 (.zp b) opLsr s)

/-- LSR ZPX, 56/6 (R191). -/
def execLsrZpx (b : Byte) (s : State) : Result := .next (pulse 0x56 6 (.zpx b) opLsr s)

/-- LSR ABS, 4E/6 (R191). -/
def execLsrAbs (w : Word) (s : State) : Result := .next (pulse 0x4E 6 (.abs w) opLsr s)

/-- LSR ABX, 5E/7 (R191). -/
def execLsrAbx (w : Word) (s : State) : Result := .next (pulse 0x5E 7 (.abx w) opLsr s)

/-- ROL ACC, 2A/2 (R192). -/
def execRolAcc (s : State) : Result := .next (pulse 0x2A 2 .acc opRol s)

/-- ROL ZP, 26/5 (R192). -/
def execRolZp (b : Byte) (s : State) : Result := .next (pulse 0x26 5 (.zp b) opRol s)

/-- ROL ZPX, 36/6 (R192). -/
def execRolZpx (b : Byte) (s : State) : Result := .next (pulse 0x36 6 (.zpx b) opRol s)

/-- ROL ABS, 2E/6 (R192). -/
def execRolAbs (w : Word) (s : State) : Result := .next (pulse 0x2E 6 (.abs w) opRol s)

/-- ROL ABX, 3E/7 (R192). -/
def execRolAbx (w : Word) (s : State) : Result := .next (pulse 0x3E 7 (.abx w) opRol s)

/-- ROR ACC, 6A/2 (R193). -/
def execRorAcc (s : State) : Result := .next (pulse 0x6A 2 .acc opRor s)

/-- ROR ZP, 66/5 (R193). -/
def execRorZp (b : Byte) (s : State) : Result := .next (pulse 0x66 5 (.zp b) opRor s)

/-- ROR ZPX, 76/6 (R193). -/
def execRorZpx (b : Byte) (s : State) : Result := .next (pulse 0x76 6 (.zpx b) opRor s)

/-- ROR ABS, 6E/6 (R193). -/
def execRorAbs (w : Word) (s : State) : Result := .next (pulse 0x6E 6 (.abs w) opRor s)

/-- ROR ABX, 7E/7 (R193). -/
def execRorAbx (w : Word) (s : State) : Result := .next (pulse 0x7E 7 (.abx w) opRor s)

end Sys2Proof.Machine
end

