-- ==== Sys2Proof/Machine/Stack.lean ====
section
/-! DEFINITION. The stack instructions (46_stack).
First the operations, then one meaning for each row of the opcode table: the pulse with its opcode byte, base cycles and
mode (30_encoding R73). -/

namespace Sys2Proof.Machine

/-- PHA: `Push(A)` (R212). -/
def opPha : Operation := fun _ s => (s.push s.a, false)

/-- PHP: `Push(STATUS | PHP_PUSH_OR)`; the live STATUS stays (R213; log entry 4). -/
def opPhp : Operation := fun _ s => (s.push (s.status ||| phpPushOr), false)

/-- PLA: `A <- Pop(); SetNZ(A)` (R214). -/
def opPla : Operation := fun _ s =>
  let p := s.pop
  ((p.1.setA p.2).setStatus (setNZ s.status p.2), false)

/-- PLP: `STATUS <- Pop()`, all eight bits (R215). -/
def opPlp : Operation := fun _ s =>
  let p := s.pop
  (p.1.setStatus p.2, false)

/-- PHA IMP, 48/3 (R212). -/
def execPha (s : State) : Result := .next (pulse 0x48 3 .imp opPha s)

/-- PHP IMP, 08/3 (R213). -/
def execPhp (s : State) : Result := .next (pulse 0x08 3 .imp opPhp s)

/-- PLA IMP, 68/4 (R214). -/
def execPla (s : State) : Result := .next (pulse 0x68 4 .imp opPla s)

/-- PLP IMP, 28/4 (R215). -/
def execPlp (s : State) : Result := .next (pulse 0x28 4 .imp opPlp s)

end Sys2Proof.Machine
end

