-- ==== Sys2Proof/Machine/System.lean ====
section
/-! DEFINITION. System instructions and the illegal operation (48_system).
First the operations, then one meaning for each row of the opcode table: the pulse with its opcode byte, base cycles and
mode (30_encoding R73). -/

namespace Sys2Proof.Machine

/-- BRK: skips the padding byte, then enters the handler; not masked by I (R240). -/
def opBrk : Operation := fun _ s => ((s.setPc (s.pc + 1)).brkEntry, false)

/-- RTI (R241). -/
def opRti : Operation := fun _ s => (s.returnFromException, false)

/-- NOP: no state change (R242). -/
def opNop : Operation := fun _ s => (s, false)

/-- The illegal operation: no mutation, e2 false, no error (R243). -/
def opIllegal : Operation := fun _ s => (s, false)

/-- BRK IMP, 00/7 (R240). -/
def execBrk (s : State) : Result := .next (pulse 0x00 7 .imp opBrk s)

/-- RTI IMP, 40/6 (R241). -/
def execRti (s : State) : Result := .next (pulse 0x40 6 .imp opRti s)

/-- NOP IMP, EA/2 (R242). -/
def execNop (s : State) : Result := .next (pulse 0xEA 2 .imp opNop s)

/-- A whole illegal opcode: one byte long, ILLEGAL_BASE_CYCLES pulses, nothing else changes (R244). -/
def execIllegal (op : Byte) (s : State) : Result := .next (pulse op (illegalBaseCycles op) .ill opIllegal s)

end Sys2Proof.Machine
end

