-- ==== Sys2Proof/Machine/Engine.lean ====
section
/-! DEFINITION. The execution engine's `clock` command, the host's command port and the introspection port
(40_execution_engine, 10_state R40 to R44). -/

namespace Sys2Proof.Machine

/-- The instruction at PC: the opcode byte and the two bytes after it, addresses modulo 65536 (40_execution_engine R101,
20_memory R56). Reads change nothing, so a byte an instruction does not use is read without effect (R57). -/
def State.fetchInstr (s : State) : Instr :=
  decodeBytes (s.read s.pc) (s.read (s.pc + 1)) (s.read (s.pc + 2))

/-- `clock()` (40_execution_engine R100): with the counter at 0 a whole instruction, else one count down (R104, R106). -/
def clock (s : State) : Result :=
  if s.cycles = 0 then exec s.fetchInstr s else .next (s.setCycles (s.cycles - 1))

/-- One host command (10_state R43). -/
def runCommand (c : Command) (s : State) : Result :=
  match c with
  | .clock => clock s
  | .reset => .next s.resetCore
  | .irq => .next s.irq
  | .nmi => .next s.nmi
  | .init bus => .next (s.init bus)

/-- What the introspection port shows (10_state R44). -/
structure Introspection where
  a : Byte
  x : Byte
  y : Byte
  sp : Byte
  pc : Word
  status : Byte
  opcode : Byte
  cycles : Byte
  deriving DecidableEq, Repr

/-- The introspection port: a reading changes no state (10_state R44). -/
def State.introspect (s : State) : Introspection :=
  ⟨s.a, s.x, s.y, s.sp, s.pc, s.status, s.opcode, s.cycles⟩

/-- The state in which the next step fetches and runs the bytes of `w` (bit 0 the first byte's least significant bit): they
stand at PC, no pulse is left to drain and the host's next command is `clock()` (log entry 7). -/
def State.placeWord (s : State) (w : Nat) : State :=
  let s1 := s.write s.pc (tableByte w 0)
  let s2 := s1.write (s.pc + 1) (tableByte w 1)
  let s3 := s2.write (s.pc + 2) (tableByte w 2)
  (s3.setCycles 0).setCommands []

end Sys2Proof.Machine
end

