-- ==== Sys2Proof/Machine/Step.lean ====
section
/-! DEFINITION. One step: the host's next command (00_scope R12, 10_state R43). -/

namespace Sys2Proof.Machine

/-- One host command: the first of the listed ones, or `clock()` when none is listed (log entry 2). -/
def step (s : State) : Host.Outcome State Fault Refusal :=
  match s.commands with
  | [] => clock s
  | c :: rest => runCommand c (s.setCommands rest)

/-- The state whose next step fetches and runs the instruction whose table bits are `w`; bits at nbits and above are 0
(log entry 7). -/
def State.withFetchWord (s : State) (nbits w : Nat) : State := s.placeWord (w % 2 ^ nbits)

end Sys2Proof.Machine
end

