-- ==== Sys2Proof/Safety.lean ====
section
/-! DEFINITION. What claims about the machine are stated in: the invariant, the closed form of what an instruction's pulse
leaves behind, the bytes of STATUS written out by mask, and the tables of the spec that say who writes what. Every
definition here speaks of the state before the instruction. -/

namespace Sys2Proof

/-- A mode with its operand blank. -/
def Mode.blank : Mode → Mode
  | .imp => .imp | .acc => .acc | .imm _ => .imm 0 | .zp _ => .zp 0 | .zpx _ => .zpx 0 | .zpy _ => .zpy 0
  | .abs _ => .abs 0 | .abx _ => .abx 0 | .aby _ => .aby 0 | .ind _ => .ind 0 | .izx _ => .izx 0 | .izy _ => .izy 0
  | .rel _ => .rel 0 | .ill => .ill

end Sys2Proof

namespace Sys2Proof.Machine

/-- The invariant: memory is in canonical form, and the counter holds 0 to 8 (10_state R31). -/
abbrev State.Inv (s : State) : Prop := Memory.wf s.mem = true ∧ s.cycles.toNat ≤ 8

/-- The operand a mode delivers: A, the byte at the effective address, or in IMM the decoded byte, which stands there
(41_addressing_modes R123, R132; log entry 6). -/
def State.operand (s : State) (m : Mode) : Byte :=
  match m with
  | .imp | .acc => s.a
  | .imm v => v
  | .zp _ | .zpx _ | .zpy _ | .abs _ | .abx _ | .aby _ | .ind _ | .izx _ | .izy _ | .rel _ | .ill => s.read (s.ea m)

/-- What `addr_rel` holds after a mode has run (R128). -/
def State.relAfter (s : State) (m : Mode) : Word :=
  match m with
  | .rel o => sext16 o
  | .imp | .acc | .imm _ | .zp _ | .zpx _ | .zpy _ | .abs _ | .abx _ | .aby _ | .ind _ | .izx _ | .izy _ | .ill => s.addrRel

/-- What `fetched` holds after a mode has run, before any operand fetch (R121, R122). -/
def State.fetchedAfter (s : State) (m : Mode) : Byte :=
  match m with
  | .imp | .acc => s.a
  | .imm _ | .zp _ | .zpx _ | .zpy _ | .abs _ | .abx _ | .aby _ | .ind _ | .izx _ | .izy _ | .rel _ | .ill => s.fetched

/-- What the pulse of an instruction leaves behind apart from its operation: the opcode, PC past the instruction, the
decode fields, and base - 1 in the counter (40_execution_engine R100 to R106). -/
def State.advanced (s : State) (i : Instr) : State :=
  { s with
    opcode := i.entry.opcode
    pc := s.pc + BitVec.ofNat 16 i.size
    addrAbs := (s.setPc (s.pc + 1)).ea i.entry.mode
    addrRel := s.relAfter i.entry.mode
    fetched := s.fetchedAfter i.entry.mode
    cycles := i.entry.base - 1 }

/-- The same for an operation that fetches its operand (R132). -/
def State.advancedRead (s : State) (i : Instr) : State :=
  { s.advanced i with fetched := s.operand i.entry.mode }

/-- The same for one that is extra-cycle eligible as well: one cycle more when the page is crossed (R105). -/
def State.advancedEligible (s : State) (i : Instr) : State :=
  { s.advancedRead i with cycles := i.entry.base - 1 + (if s.crosses i.entry.mode then 1 else 0) }

/-- A STATUS byte with the bits of a mask replaced, all others kept. -/
def withBits (st mask bits : Byte) : Byte := (st &&& ~~~ mask) ||| (bits &&& mask)

/-- A mask when a condition holds, else no bit. -/
def bitsIf (cond : Bool) (mask : Byte) : Byte := if cond then mask else 0x00

/-- STATUS with Z and N of a result (10_state R25, R27). -/
def nzStatus (st v : Byte) : Byte := withBits st 0x82 (bitsIf (v == 0x00) 0x02 ||| (v &&& 0x80))

/-- STATUS with C, Z and N: the carry given, Z and N of a result. -/
def cnzStatus (st : Byte) (carry : Bool) (v : Byte) : Byte :=
  withBits st 0x83 (bitsIf carry 0x01 ||| bitsIf (v == 0x00) 0x02 ||| (v &&& 0x80))

/-- A flag as a number, 0 or 1. -/
def flagNat (st : Byte) (f : Flag) : Nat := if getFlag st f then 1 else 0

/-- The widened sum of ADC as an integer, 0 to 511 (43_arithmetic_logic R160). -/
def adcSum (s : State) (m : Byte) : Nat := s.a.toNat + m.toNat + flagNat s.status .c

/-- STATUS after ADC by the document's formulas (R160), with the sum an integer. -/
def adcStatus (s : State) (m : Byte) : Byte :=
  let r := BitVec.ofNat 8 (adcSum s m)
  withBits s.status 0xC3
    (bitsIf (decide (adcSum s m > 255)) 0x01 ||| bitsIf (r == 0x00) 0x02 ||| (r &&& 0x80)
      ||| bitsIf ((~~~ (s.a ^^^ m) &&& (s.a ^^^ r)) &&& 0x80 != 0x00) 0x40)

/-- The flag a branch tests and the value it is taken on; none for every other operation (47_control_transfer R221 to
R228). -/
def branchTest : Op → Option (Flag × Bool)
  | .bcc => some (.c, false)
  | .bcs => some (.c, true)
  | .beq => some (.z, true)
  | .bmi => some (.n, true)
  | .bne => some (.z, false)
  | .bpl => some (.n, false)
  | .bvc => some (.v, false)
  | .bvs => some (.v, true)
  | .adc | .and | .asl | .bit | .brk | .clc | .cld | .cli | .clv | .cmp | .cpx | .cpy | .dec | .dex
  | .dey | .eor | .inc | .inx | .iny | .jmp | .jsr | .lda | .ldx | .ldy | .lsr | .nop | .ora | .pha
  | .php | .pla | .plp | .rol | .ror | .rti | .rts | .sbc | .sec | .sed | .sei | .sta | .stx | .sty
  | .tax | .tay | .tsx | .txa | .txs | .tya | .illegal => none

/-- The STATUS bits an operation may write, as a mask (10_state R29). -/
def flagsWritten : Op → Byte
  | .adc | .sbc => 0xC3
  | .and | .ora | .eor | .lda | .ldx | .ldy | .tax | .tay | .txa | .tya | .tsx | .pla | .inc | .dec | .inx | .iny | .dex | .dey => 0x82
  | .cmp | .cpx | .cpy | .asl | .lsr | .rol | .ror => 0x83
  | .bit => 0xC2
  | .clc | .sec => 0x01
  | .cli | .sei | .brk => 0x04
  | .cld | .sed => 0x08
  | .clv => 0x40
  | .plp | .rti => 0xFF
  | .bcc | .bcs | .beq | .bmi | .bne | .bpl | .bvc | .bvs | .sta | .stx | .sty | .txs | .pha | .php | .jmp | .jsr | .rts | .nop | .illegal => 0x00

/-- The shifts and rotates (44_shift_rotate). -/
def isShift : Op → Bool
  | .asl | .lsr | .rol | .ror => true
  | .adc | .and | .bcc | .bcs | .beq | .bit | .bmi | .bne | .bpl | .brk | .bvc | .bvs | .clc | .cld
  | .cli | .clv | .cmp | .cpx | .cpy | .dec | .dex | .dey | .eor | .inc | .inx | .iny | .jmp | .jsr
  | .lda | .ldx | .ldy | .nop | .ora | .pha | .php | .pla | .plp | .rti | .rts | .sbc | .sec | .sed
  | .sei | .sta | .stx | .sty | .tax | .tay | .tsx | .txa | .txs | .tya | .illegal => false

/-- The operations that write A in every mode they have (10_state R20). -/
def writesAInEveryMode : Op → Bool
  | .lda | .txa | .tya | .pla | .adc | .sbc | .and | .ora | .eor => true
  | .asl | .bcc | .bcs | .beq | .bit | .bmi | .bne | .bpl | .brk | .bvc | .bvs | .clc | .cld | .cli
  | .clv | .cmp | .cpx | .cpy | .dec | .dex | .dey | .inc | .inx | .iny | .jmp | .jsr | .ldx | .ldy
  | .lsr | .nop | .pha | .php | .plp | .rol | .ror | .rti | .rts | .sec | .sed | .sei | .sta | .stx
  | .sty | .tax | .tay | .tsx | .txs | .illegal => false

/-- The instructions that write A: besides those, the accumulator forms of the shifts (10_state R20). -/
def writesA (i : Instr) : Bool := writesAInEveryMode i.entry.op || (isShift i.entry.op && i.entry.mode == .acc)

/-- The operations that write X (10_state R20). -/
def writesX : Op → Bool
  | .ldx | .tax | .tsx | .inx | .dex => true
  | .adc | .and | .asl | .bcc | .bcs | .beq | .bit | .bmi | .bne | .bpl | .brk | .bvc | .bvs | .clc
  | .cld | .cli | .clv | .cmp | .cpx | .cpy | .dec | .dey | .eor | .inc | .iny | .jmp | .jsr | .lda
  | .ldy | .lsr | .nop | .ora | .pha | .php | .pla | .plp | .rol | .ror | .rti | .rts | .sbc | .sec
  | .sed | .sei | .sta | .stx | .sty | .tay | .txa | .txs | .tya | .illegal => false

/-- The operations that write Y (10_state R20). -/
def writesY : Op → Bool
  | .ldy | .tay | .iny | .dey => true
  | .adc | .and | .asl | .bcc | .bcs | .beq | .bit | .bmi | .bne | .bpl | .brk | .bvc | .bvs | .clc
  | .cld | .cli | .clv | .cmp | .cpx | .cpy | .dec | .dex | .eor | .inc | .inx | .jmp | .jsr | .lda
  | .ldx | .lsr | .nop | .ora | .pha | .php | .pla | .plp | .rol | .ror | .rti | .rts | .sbc | .sec
  | .sed | .sei | .sta | .stx | .sty | .tax | .tsx | .txa | .txs | .tya | .illegal => false

/-- The operations that write SP (10_state R20). -/
def writesSp : Op → Bool
  | .txs | .pha | .php | .pla | .plp | .jsr | .rts | .rti | .brk => true
  | .adc | .and | .asl | .bcc | .bcs | .beq | .bit | .bmi | .bne | .bpl | .bvc | .bvs | .clc | .cld
  | .cli | .clv | .cmp | .cpx | .cpy | .dec | .dex | .dey | .eor | .inc | .inx | .iny | .jmp | .lda
  | .ldx | .ldy | .lsr | .nop | .ora | .rol | .ror | .sbc | .sec | .sed | .sei | .sta | .stx | .sty
  | .tax | .tay | .tsx | .txa | .tya | .illegal => false

/-- The operations that load PC, or skip a byte, beyond the advance past their own bytes (47_control_transfer, 48_system). -/
def transfersControl : Op → Bool
  | .bcc | .bcs | .beq | .bmi | .bne | .bpl | .bvc | .bvs | .jmp | .jsr | .rts | .brk | .rti => true
  | .adc | .and | .asl | .bit | .clc | .cld | .cli | .clv | .cmp | .cpx | .cpy | .dec | .dex | .dey
  | .eor | .inc | .inx | .iny | .lda | .ldx | .ldy | .lsr | .nop | .ora | .pha | .php | .pla | .plp
  | .rol | .ror | .sbc | .sec | .sed | .sei | .sta | .stx | .sty | .tax | .tay | .tsx | .txa | .txs
  | .tya | .illegal => false

/-- The operations that store to their effective address in every mode they have. -/
def storesInEveryMode : Op → Bool
  | .sta | .stx | .sty | .inc | .dec => true
  | .adc | .and | .asl | .bcc | .bcs | .beq | .bit | .bmi | .bne | .bpl | .brk | .bvc | .bvs | .clc
  | .cld | .cli | .clv | .cmp | .cpx | .cpy | .dex | .dey | .eor | .inx | .iny | .jmp | .jsr | .lda
  | .ldx | .ldy | .lsr | .nop | .ora | .pha | .php | .pla | .plp | .rol | .ror | .rti | .rts | .sbc
  | .sec | .sed | .sei | .tax | .tay | .tsx | .txa | .txs | .tya | .illegal => false

/-- The instructions that store one byte at their effective address: the stores, INC and DEC, and the memory forms of the
shifts. -/
def storesAtEA (i : Instr) : Bool := storesInEveryMode i.entry.op || (isShift i.entry.op && i.entry.mode != .acc)

/-- How many bytes an operation pushes. -/
def pushCount : Op → Nat
  | .pha | .php => 1
  | .jsr => 2
  | .brk => 3
  | .adc | .and | .asl | .bcc | .bcs | .beq | .bit | .bmi | .bne | .bpl | .bvc | .bvs | .clc | .cld
  | .cli | .clv | .cmp | .cpx | .cpy | .dec | .dex | .dey | .eor | .inc | .inx | .iny | .jmp | .lda
  | .ldx | .ldy | .lsr | .nop | .ora | .pla | .plp | .rol | .ror | .rti | .rts | .sbc | .sec | .sed
  | .sei | .sta | .stx | .sty | .tax | .tay | .tsx | .txa | .txs | .tya | .illegal => 0

/-- The state with other values in the transient decode fields (10_state R31, R33). -/
def State.withTransient (s : State) (fetched : Byte) (addrAbs addrRel : Word) : State :=
  { s with fetched := fetched, addrAbs := addrAbs, addrRel := addrRel }

end Sys2Proof.Machine
end

