-- ==== Sys2Proof/Syntax/Assembly.lean ====
section
/-! DEFINITION. The assembler notation of 30_encoding R79, as text. No rule of CORE reads it (D26). -/

namespace Sys2Proof

/-- The mnemonic of an operation, as the spec writes it (30_encoding R73, R79). -/
def Op.mnemonic : Op → String
  | .adc => "ADC" | .and => "AND" | .asl => "ASL" | .bcc => "BCC"
  | .bcs => "BCS" | .beq => "BEQ" | .bit => "BIT" | .bmi => "BMI"
  | .bne => "BNE" | .bpl => "BPL" | .brk => "BRK" | .bvc => "BVC"
  | .bvs => "BVS" | .clc => "CLC" | .cld => "CLD" | .cli => "CLI"
  | .clv => "CLV" | .cmp => "CMP" | .cpx => "CPX" | .cpy => "CPY"
  | .dec => "DEC" | .dex => "DEX" | .dey => "DEY" | .eor => "EOR"
  | .inc => "INC" | .inx => "INX" | .iny => "INY" | .jmp => "JMP"
  | .jsr => "JSR" | .lda => "LDA" | .ldx => "LDX" | .ldy => "LDY"
  | .lsr => "LSR" | .nop => "NOP" | .ora => "ORA" | .pha => "PHA"
  | .php => "PHP" | .pla => "PLA" | .plp => "PLP" | .rol => "ROL"
  | .ror => "ROR" | .rti => "RTI" | .rts => "RTS" | .sbc => "SBC"
  | .sec => "SEC" | .sed => "SED" | .sei => "SEI" | .sta => "STA"
  | .stx => "STX" | .sty => "STY" | .tax => "TAX" | .tay => "TAY"
  | .tsx => "TSX" | .txa => "TXA" | .txs => "TXS" | .tya => "TYA"
  | .illegal => ".byte"

/-- One hexadecimal digit. -/
def hexDigit (n : Nat) : String := String.singleton (Nat.digitChar (n % 16))

/-- A byte as two hexadecimal digits. -/
def hexByte (b : Byte) : String := hexDigit (b.toNat / 16) ++ hexDigit b.toNat

/-- An address as four hexadecimal digits. -/
def hexWord (w : Word) : String := hexByte (hiByte w) ++ hexByte (loByte w)

/-- The address a branch at `addr` with offset `o` names: the offset counts from the byte after the branch (R74, R79). -/
def branchTarget (addr : Word) (o : Byte) : Word := addr + 2 + sext16 o

/-- The offset byte the assembler computes for a branch at `addr` to `target`, where it lies in -128..127 (R79). -/
def branchOffset (addr target : Word) : Option Byte :=
  let d := target - (addr + 2)
  if sext16 (loByte d) = d then some (loByte d) else none

/-- The operand of an instruction at `addr`, in the form of the last column of the format table (R71, R79). -/
def Mode.operandText (addr : Word) : Mode → String
  | .imp | .ill => ""
  | .acc => " A"
  | .imm v => " #$" ++ hexByte v
  | .zp b => " $" ++ hexByte b
  | .zpx b => " $" ++ hexByte b ++ ",X"
  | .zpy b => " $" ++ hexByte b ++ ",Y"
  | .abs w => " $" ++ hexWord w
  | .abx w => " $" ++ hexWord w ++ ",X"
  | .aby w => " $" ++ hexWord w ++ ",Y"
  | .ind w => " ($" ++ hexWord w ++ ")"
  | .izx b => " ($" ++ hexByte b ++ ",X)"
  | .izy b => " ($" ++ hexByte b ++ "),Y"
  | .rel o => " $" ++ hexWord (branchTarget addr o)

/-- The assembly line of an instruction at `addr`; an illegal value is a data byte (R79, R80). -/
def Instr.assembly (addr : Word) (i : Instr) : String :=
  match i.entry.op with
  | .illegal => ".byte $" ++ hexByte i.entry.opcode
  | .adc | .and | .asl | .bcc | .bcs | .beq | .bit | .bmi | .bne | .bpl | .brk | .bvc | .bvs | .clc
  | .cld | .cli | .clv | .cmp | .cpx | .cpy | .dec | .dex | .dey | .eor | .inc | .inx | .iny | .jmp
  | .jsr | .lda | .ldx | .ldy | .lsr | .nop | .ora | .pha | .php | .pla | .plp | .rol | .ror | .rti
  | .rts | .sbc | .sec | .sed | .sei | .sta | .stx | .sty | .tax | .tay | .tsx | .txa | .txs | .tya =>
    i.entry.op.mnemonic ++ i.entry.mode.operandText addr

end Sys2Proof
end

