-- ==== Sys2Proof/Certificates/Slice0/Obligations.lean ====
section
/-! DEFINITION. The statements about CORE, from the numbered rules of spec/. Each docstring names the rule it formalises.
The vocabulary is Sys2Proof/Safety.lean's; it speaks of the state before the instruction. -/

open Sys2Proof Sys2Proof.Machine

/-! ### Decoder and encoder -/

/-- Words of each family, written out from the opcode map (30_encoding R71, R73, R76), decode to their instruction. -/
def Obligations.SpecWordsDecode : Prop :=
  decodeTableWord 24 0x20FFBD = some (.ldaAbx 0x20FF) ∧ decodeTableWord 16 0xFF96 = some (.stxZpy 0xFF) ∧
  decodeTableWord 16 0x1069 = some (.adcImm 0x10) ∧ decodeTableWord 16 0x40B1 = some (.ldaIzy 0x40) ∧
  decodeTableWord 8 0x6A = some .rorAcc ∧ decodeTableWord 8 0x78 = some .sei ∧
  decodeTableWord 8 0x48 = some .pha ∧ decodeTableWord 16 0xFED0 = some (.bne 0xFE) ∧
  decodeTableWord 24 0x02FF6C = some (.jmpInd 0x02FF) ∧ decodeTableWord 24 0x900020 = some (.jsr 0x9000) ∧
  decodeTableWord 8 0x00 = some .brk ∧ decodeTableWord 8 0x02 = some (.illegal 0x02)

/-- A row of the opcode map as the statement below lists it: opcode, operation, mode (its operand blank), base cycles. -/
abbrev Sys2Proof.MapEntry := Byte × Op × Mode × Byte

/-- The encodings an instruction rule lists, each as opcode, mode (its operand blank) and base cycles, are those of the
instructions of that operation, all of them and no other. -/
def Sys2Proof.FormsAre (o : Op) (forms : List (Byte × Mode × Byte)) : Prop :=
  ∀ form, form ∈ forms ↔ ∃ i : Instr, i.entry.op = o ∧ (i.entry.opcode, i.entry.mode.blank, i.entry.base) = form

/-- Row 0x of the opcode map (30_encoding R73). -/
def Sys2Proof.specMap0 : List MapEntry :=
  [(0x00, .brk, .imp, 7), (0x01, .ora, .izx 0, 6), (0x05, .ora, .zp 0, 3), (0x06, .asl, .zp 0, 5),
   (0x08, .php, .imp, 3), (0x09, .ora, .imm 0, 2), (0x0A, .asl, .acc, 2), (0x0D, .ora, .abs 0, 4),
   (0x0E, .asl, .abs 0, 6)]

/-- Row 1x of the opcode map (30_encoding R73). -/
def Sys2Proof.specMap1 : List MapEntry :=
  [(0x10, .bpl, .rel 0, 2), (0x11, .ora, .izy 0, 5), (0x15, .ora, .zpx 0, 4), (0x16, .asl, .zpx 0, 6),
   (0x18, .clc, .imp, 2), (0x19, .ora, .aby 0, 4), (0x1D, .ora, .abx 0, 4), (0x1E, .asl, .abx 0, 7)]

/-- Row 2x of the opcode map (30_encoding R73). -/
def Sys2Proof.specMap2 : List MapEntry :=
  [(0x20, .jsr, .abs 0, 6), (0x21, .and, .izx 0, 6), (0x24, .bit, .zp 0, 3), (0x25, .and, .zp 0, 3),
   (0x26, .rol, .zp 0, 5), (0x28, .plp, .imp, 4), (0x29, .and, .imm 0, 2), (0x2A, .rol, .acc, 2),
   (0x2C, .bit, .abs 0, 4), (0x2D, .and, .abs 0, 4), (0x2E, .rol, .abs 0, 6)]

/-- Row 3x of the opcode map (30_encoding R73). -/
def Sys2Proof.specMap3 : List MapEntry :=
  [(0x30, .bmi, .rel 0, 2), (0x31, .and, .izy 0, 5), (0x35, .and, .zpx 0, 4), (0x36, .rol, .zpx 0, 6),
   (0x38, .sec, .imp, 2), (0x39, .and, .aby 0, 4), (0x3D, .and, .abx 0, 4), (0x3E, .rol, .abx 0, 7)]

/-- Row 4x of the opcode map (30_encoding R73). -/
def Sys2Proof.specMap4 : List MapEntry :=
  [(0x40, .rti, .imp, 6), (0x41, .eor, .izx 0, 6), (0x45, .eor, .zp 0, 3), (0x46, .lsr, .zp 0, 5),
   (0x48, .pha, .imp, 3), (0x49, .eor, .imm 0, 2), (0x4A, .lsr, .acc, 2), (0x4C, .jmp, .abs 0, 3),
   (0x4D, .eor, .abs 0, 4), (0x4E, .lsr, .abs 0, 6)]

/-- Row 5x of the opcode map (30_encoding R73). -/
def Sys2Proof.specMap5 : List MapEntry :=
  [(0x50, .bvc, .rel 0, 2), (0x51, .eor, .izy 0, 5), (0x55, .eor, .zpx 0, 4), (0x56, .lsr, .zpx 0, 6),
   (0x58, .cli, .imp, 2), (0x59, .eor, .aby 0, 4), (0x5D, .eor, .abx 0, 4), (0x5E, .lsr, .abx 0, 7)]

/-- Row 6x of the opcode map (30_encoding R73). -/
def Sys2Proof.specMap6 : List MapEntry :=
  [(0x60, .rts, .imp, 6), (0x61, .adc, .izx 0, 6), (0x65, .adc, .zp 0, 3), (0x66, .ror, .zp 0, 5),
   (0x68, .pla, .imp, 4), (0x69, .adc, .imm 0, 2), (0x6A, .ror, .acc, 2), (0x6C, .jmp, .ind 0, 5),
   (0x6D, .adc, .abs 0, 4), (0x6E, .ror, .abs 0, 6)]

/-- Row 7x of the opcode map (30_encoding R73). -/
def Sys2Proof.specMap7 : List MapEntry :=
  [(0x70, .bvs, .rel 0, 2), (0x71, .adc, .izy 0, 5), (0x75, .adc, .zpx 0, 4), (0x76, .ror, .zpx 0, 6),
   (0x78, .sei, .imp, 2), (0x79, .adc, .aby 0, 4), (0x7D, .adc, .abx 0, 4), (0x7E, .ror, .abx 0, 7)]

/-- Row 8x of the opcode map (30_encoding R73). -/
def Sys2Proof.specMap8 : List MapEntry :=
  [(0x81, .sta, .izx 0, 6), (0x84, .sty, .zp 0, 3), (0x85, .sta, .zp 0, 3), (0x86, .stx, .zp 0, 3),
   (0x88, .dey, .imp, 2), (0x8A, .txa, .imp, 2), (0x8C, .sty, .abs 0, 4), (0x8D, .sta, .abs 0, 4),
   (0x8E, .stx, .abs 0, 4)]

/-- Row 9x of the opcode map (30_encoding R73). -/
def Sys2Proof.specMap9 : List MapEntry :=
  [(0x90, .bcc, .rel 0, 2), (0x91, .sta, .izy 0, 6), (0x94, .sty, .zpx 0, 4), (0x95, .sta, .zpx 0, 4),
   (0x96, .stx, .zpy 0, 4), (0x98, .tya, .imp, 2), (0x99, .sta, .aby 0, 5), (0x9A, .txs, .imp, 2),
   (0x9D, .sta, .abx 0, 5)]

/-- Row Ax of the opcode map (30_encoding R73). -/
def Sys2Proof.specMapA : List MapEntry :=
  [(0xA0, .ldy, .imm 0, 2), (0xA1, .lda, .izx 0, 6), (0xA2, .ldx, .imm 0, 2), (0xA4, .ldy, .zp 0, 3),
   (0xA5, .lda, .zp 0, 3), (0xA6, .ldx, .zp 0, 3), (0xA8, .tay, .imp, 2), (0xA9, .lda, .imm 0, 2),
   (0xAA, .tax, .imp, 2), (0xAC, .ldy, .abs 0, 4), (0xAD, .lda, .abs 0, 4), (0xAE, .ldx, .abs 0, 4)]

/-- Row Bx of the opcode map (30_encoding R73). -/
def Sys2Proof.specMapB : List MapEntry :=
  [(0xB0, .bcs, .rel 0, 2), (0xB1, .lda, .izy 0, 5), (0xB4, .ldy, .zpx 0, 4), (0xB5, .lda, .zpx 0, 4),
   (0xB6, .ldx, .zpy 0, 4), (0xB8, .clv, .imp, 2), (0xB9, .lda, .aby 0, 4), (0xBA, .tsx, .imp, 2),
   (0xBC, .ldy, .abx 0, 4), (0xBD, .lda, .abx 0, 4), (0xBE, .ldx, .aby 0, 4)]

/-- Row Cx of the opcode map (30_encoding R73). -/
def Sys2Proof.specMapC : List MapEntry :=
  [(0xC0, .cpy, .imm 0, 2), (0xC1, .cmp, .izx 0, 6), (0xC4, .cpy, .zp 0, 3), (0xC5, .cmp, .zp 0, 3),
   (0xC6, .dec, .zp 0, 5), (0xC8, .iny, .imp, 2), (0xC9, .cmp, .imm 0, 2), (0xCA, .dex, .imp, 2),
   (0xCC, .cpy, .abs 0, 4), (0xCD, .cmp, .abs 0, 4), (0xCE, .dec, .abs 0, 6)]

/-- Row Dx of the opcode map (30_encoding R73). -/
def Sys2Proof.specMapD : List MapEntry :=
  [(0xD0, .bne, .rel 0, 2), (0xD1, .cmp, .izy 0, 5), (0xD5, .cmp, .zpx 0, 4), (0xD6, .dec, .zpx 0, 6),
   (0xD8, .cld, .imp, 2), (0xD9, .cmp, .aby 0, 4), (0xDD, .cmp, .abx 0, 4), (0xDE, .dec, .abx 0, 7)]

/-- Row Ex of the opcode map (30_encoding R73). -/
def Sys2Proof.specMapE : List MapEntry :=
  [(0xE0, .cpx, .imm 0, 2), (0xE1, .sbc, .izx 0, 6), (0xE4, .cpx, .zp 0, 3), (0xE5, .sbc, .zp 0, 3),
   (0xE6, .inc, .zp 0, 5), (0xE8, .inx, .imp, 2), (0xE9, .sbc, .imm 0, 2), (0xEA, .nop, .imp, 2),
   (0xEC, .cpx, .abs 0, 4), (0xED, .sbc, .abs 0, 4), (0xEE, .inc, .abs 0, 6)]

/-- Row Fx of the opcode map (30_encoding R73). -/
def Sys2Proof.specMapF : List MapEntry :=
  [(0xF0, .beq, .rel 0, 2), (0xF1, .sbc, .izy 0, 5), (0xF5, .sbc, .zpx 0, 4), (0xF6, .inc, .zpx 0, 6),
   (0xF8, .sed, .imp, 2), (0xF9, .sbc, .aby 0, 4), (0xFD, .sbc, .abx 0, 4), (0xFE, .inc, .abx 0, 7)]

/-- The 151 legal entries of the opcode map, in its order (30_encoding R73). -/
def Sys2Proof.specMap : List MapEntry :=
  specMap0 ++ specMap1 ++ specMap2 ++ specMap3 ++ specMap4 ++ specMap5 ++ specMap6 ++ specMap7 ++
  specMap8 ++ specMap9 ++ specMapA ++ specMapB ++ specMapC ++ specMapD ++ specMapE ++ specMapF

/-- Each entry of the opcode map decodes, whatever bytes follow, to an instruction of that opcode, operation, mode and base
count, whose operand bytes are the next ones, and leaves the bytes after them (30_encoding R71, R72, R73, R74). -/
def Obligations.OpcodeMapEntries : Prop :=
  specMap.length = 151 ∧
  ∀ e ∈ specMap, ∀ (b1 b2 : Byte) (rest : List Byte), ∃ i : Instr,
    decode (e.1 :: b1 :: b2 :: rest) =
      .ok (i, (b1 :: b2 :: rest).drop e.2.2.1.operandBytes.length) ∧
    i.entry.opcode = e.1 ∧ i.entry.op = e.2.1 ∧ i.entry.mode.blank = e.2.2.1 ∧ i.entry.base = e.2.2.2 ∧
    i.entry.mode.operandBytes = (b1 :: b2 :: rest).take e.2.2.1.operandBytes.length

/-- Decoding an encoded well-formed instruction gives it back, with every operand and whatever bytes follow
(30_encoding R70 to R75). -/
def Obligations.DecodeOfEncode : Prop :=
  ∀ (i : Instr) (rest : List Byte), i.wellFormed = true → decode (encode i ++ rest) = .ok (i, rest)

/-- Whatever bytes decode, they are the encoding of the instruction read, which is well formed, and the bytes left over
(30_encoding R70 to R76). -/
def Obligations.EncodeOfDecode : Prop :=
  ∀ (bytes rest : List Byte) (i : Instr), decode bytes = .ok (i, rest) →
    bytes = encode i ++ rest ∧ i.wellFormed = true

/-- Every opcode byte decodes, given the two bytes an instruction may take: the 105 distinct illegal values to the illegal
instruction of one byte with their value, every other to a legal instruction with that opcode (30_encoding R72, R76). -/
def Obligations.EveryOpcodeDecodes : Prop :=
  illegalOpcodes.length = 105 ∧ illegalOpcodes.Nodup ∧
  ∀ (b b1 b2 : Byte) (rest : List Byte),
    (b ∈ illegalOpcodes → decode (b :: b1 :: b2 :: rest) = .ok (.illegal b, b1 :: b2 :: rest)) ∧
    (b ∉ illegalOpcodes → ∃ (i : Instr) (left : List Byte), decode (b :: b1 :: b2 :: rest) = .ok (i, left) ∧
      i.entry.opcode = b ∧ i.entry.op ≠ .illegal ∧ i.entry.mode ≠ .ill)

/-- The opcode byte alone fixes the entry of the opcode table, that is the mode, the operation and the base cycles, and with
it the length (30_encoding R70, R72, R75, R77). -/
def Obligations.OpcodeByteFixesTheEntry : Prop :=
  ∀ i j : Instr, i.wellFormed = true → j.wellFormed = true → i.entry.opcode = j.entry.opcode →
    i.entry.mode.blank = j.entry.mode.blank ∧ i.entry.op = j.entry.op ∧ i.entry.base = j.entry.base ∧ i.size = j.size

/-! ### The step -/

/-- When the counter is 0 and the host issues `clock()`, a step is exec of the instruction that the bytes at PC decode to
(40_execution_engine R100, R101, R102); nothing is added around it. A listed `clock` is taken off the list first; where none
is listed the step is a `clock()` by the model's choice of log entry 2. -/
def Obligations.StepRunsTheDecodedInstruction : Prop :=
  ∀ (s : State) (i : Instr) (left : List Byte), s.cycles = 0 →
    decode [s.read s.pc, s.read (s.pc + 1), s.read (s.pc + 2)] = .ok (i, left) →
    (s.commands = [] → step s = exec i s) ∧
    (∀ rest, s.commands = .clock :: rest → step s = exec i (s.setCommands rest))

/-- A pulse while the counter is not 0 changes nothing but the counter, which goes down by one (R104, R106). A listed `clock`
is taken off the list; where none is listed the pulse is the model's choice of log entry 2. -/
def Obligations.DrainingPulseOnlyCountsDown : Prop :=
  ∀ s : State, s.cycles ≠ 0 →
    (s.commands = [] → step s = .next { s with cycles := s.cycles - 1 }) ∧
    (∀ rest, s.commands = .clock :: rest → step s = .next { s with cycles := s.cycles - 1, commands := rest })

/-- An instruction's pulse leaves a count k; k pulses later the counter is 0 and nothing else has changed
(40_execution_engine R104, R107). With no command listed each step is a pulse (log entry 2). -/
def Obligations.RemainingPulsesDrain : Prop :=
  ∀ (i : Instr) (s t : State), s.commands = [] → exec i s = .next t →
    core.run t.cycles.toNat t = .next { t with cycles := 0 }

/-- Every step answers a next state: no fault, no refusal, from any state and for any command (40_execution_engine R108,
60_exceptions R300). -/
def Obligations.EveryStepCompletes : Prop :=
  ∀ s : State, ∃ t : State, step s = .next t

/-- `opcode` is the byte at PC after a pulse that fetches, and is kept by a draining pulse and by reset, irq and nmi; the
introspection port shows it (40_execution_engine R109). A clock step is one with `clock` listed first, or with no command
listed, which is a clock step by the model's choice of log entry 2. -/
def Obligations.OpcodeIsTheLastFetched : Prop :=
  ∀ s t : State, step s = .next t →
    ((s.commands = [] ∨ s.commands.head? = some .clock) → s.cycles = 0 → t.opcode = s.read s.pc) ∧
    ((s.commands = [] ∨ s.commands.head? = some .clock) → s.cycles ≠ 0 → t.opcode = s.opcode) ∧
    ((s.commands.head? = some .reset ∨ s.commands.head? = some .irq ∨ s.commands.head? = some .nmi) →
      t.opcode = s.opcode) ∧
    t.introspect.opcode = t.opcode

/-- The values of the transient decode fields never influence a later result: two steps from states that differ in them
only give states that differ in them only. This is 10_state R33, which the spec marks as derived from R31 and
40_execution_engine R101 to R104. -/
def Obligations.TransientFieldsNeverInfluence : Prop :=
  ∀ (s : State) (f : Byte) (ea rel : Word), ∃ t t' : State,
    step s = .next t ∧ step (s.withTransient f ea rel) = .next t' ∧
    t' = t.withTransient t'.fetched t'.addrAbs t'.addrRel

/-! ### Invariant, reset and the host's commands -/

/-- The invariant holds right after reset. -/
def Obligations.ResetMeetsTheInvariant : Prop := State.reset.Inv

/-- Every step from a state that meets the invariant gives one that meets it: memory stays canonical and the counter in
0 to 8 (10_state R31). -/
def Obligations.EveryStepKeepsTheInvariant : Prop :=
  ∀ s t : State, s.Inv → step s = .next t → t.Inv

/-- A clock step from a state with at most 8 in the counter leaves at most 7 (10_state R31): the command list begins with
`clock`, or is empty, which is a clock step by the model's choice of log entry 2. -/
def Obligations.ClockLeavesAtMostSeven : Prop :=
  ∀ s t : State, s.cycles.toNat ≤ 8 → (s.commands = [] ∨ s.commands.head? = some .clock) → step s = .next t →
    t.cycles.toNat ≤ 7

/-- `reset()`: the register values, PC from the reset vector, 8 in the counter; memory and opcode kept
(70_reset R401, R402, R403). -/
def Obligations.ResetCommand : Prop :=
  ∀ (s : State) (rest : List Command), s.commands = .reset :: rest →
    step s = .next { s with
      a := 0x00, x := 0x00, y := 0x00, sp := 0xFD, status := 0x20
      pc := wordOf (s.read 0xFFFD) (s.read 0xFFFC)
      fetched := 0x00, addrAbs := 0x0000, addrRel := 0x0000, cycles := 8, commands := rest }

/-- `init(bus)`: every register at its value, PC from the reset vector of the bus, memory the bus (70_reset R400). -/
def Obligations.InitCommand : Prop :=
  ∀ (s : State) (bus : List Host.Cell) (rest : List Command), s.commands = .init bus :: rest →
    step s = .next
      { a := 0x00, x := 0x00, y := 0x00, sp := 0xFD, status := 0x20
        pc := wordOf (Memory.read (Memory.ofCells bus) 0xFFFD) (Memory.read (Memory.ofCells bus) 0xFFFC)
        opcode := 0x00, fetched := 0x00, addrAbs := 0x0000, addrRel := 0x0000, cycles := 8
        mem := Memory.ofCells bus, commands := rest }

/-- THE MODEL'S CHOICE of log entry 1: State.reset is what `init` leaves on a bus that lists nothing, and reads 0x00 at every
address. -/
def Obligations.ResetStateIsInitOnAnEmptyBus : Prop :=
  (∀ s : State, s.commands = [.init []] → step s = .next State.reset) ∧ ∀ addr : Word, State.reset.read addr = 0x00

/-- INITIAL_MEMORY may be any function from address to byte: some bus gives it (00_scope R7, 20_memory R61). -/
def Obligations.InitialMemoryIsFree : Prop :=
  ∀ f : Word → Byte, ∃ bus : List Host.Cell, ∀ addr : Word, Memory.read (Memory.ofCells bus) addr = f addr

/-- What a reset or interrupt leaves: `irq()` with I = 1 changes nothing and leaves nothing pending; with I = 0 it pushes
PC high, PC low and STATUS with B = 0, U = 1, I = 1, which STATUS takes too, loads PC from 0xFFFE and sets the counter to 7
(60_exceptions R310, R311). -/
def Obligations.IrqCommand : Prop :=
  ∀ (s : State) (rest : List Command), s.commands = .irq :: rest →
    step s = .next (
      let st := (s.status &&& 0xEF) ||| 0x24
      if getFlag s.status .i then { s with commands := rest }
      else { s with
        sp := s.sp - 3, status := st, pc := s.read16 0xFFFE, cycles := 7, commands := rest
        mem := Memory.write (Memory.write (Memory.write s.mem (stackAddr s.sp) (hiByte s.pc))
          (stackAddr (s.sp - 1)) (loByte s.pc)) (stackAddr (s.sp - 2)) st })

/-- `nmi()`: as a taken irq, whatever I holds, with NMI_VECTOR, which is 0xFFFA or 0xFFFE, and 8 in the counter
(60_exceptions R311, R312). -/
def Obligations.NmiCommand : Prop :=
  (nmiVector = 0xFFFA ∨ nmiVector = 0xFFFE) ∧
  ∀ (s : State) (rest : List Command), s.commands = .nmi :: rest →
    step s = .next (
      let st := (s.status &&& 0xEF) ||| 0x24
      { s with
        sp := s.sp - 3, status := st, pc := s.read16 nmiVector, cycles := 8, commands := rest
        mem := Memory.write (Memory.write (Memory.write s.mem (stackAddr s.sp) (hiByte s.pc))
          (stackAddr (s.sp - 1)) (loByte s.pc)) (stackAddr (s.sp - 2)) st })

/-- RTI right after a taken irq, or after an nmi, resumes the program with I = 1, even when it ran with I = 0: PC and SP are
back, STATUS has B and U clear and I set, and a further `irq()` changes nothing. This is 60_exceptions R320 and
R321, which the spec marks as derived from R310, R311 and 48_system R241. -/
def Obligations.RtiAfterInterrupt : Prop :=
  ∀ (s t u : State) (rest : List Command),
    (s.commands = .irq :: rest ∧ getFlag s.status .i = false) ∨ s.commands = .nmi :: rest →
    step s = .next t → exec .rti t = .next u →
    u.pc = s.pc ∧ u.sp = s.sp ∧ u.status = (s.status &&& 0xCF) ||| 0x04 ∧ u.irq = u

/-! ### Memory, status and the stack as such -/

/-- A write makes the byte it names the value written and changes no other (20_memory R53). -/
def Obligations.WriteChangesOneByte : Prop :=
  ∀ (s : State) (addr other : Word) (v : Byte),
    (s.write addr v).read other = if other = addr then v else s.read other

/-- The flag codec: the bit numbers of the eight flags; a flag reads as its bit; a set flag reads as set and every other bit
of STATUS as before (10_state R25, R26). -/
def Obligations.SetFlagWritesOneBit : Prop :=
  [Flag.c, .z, .i, .d, .b, .u, .v, .n].map Flag.bit = [0, 1, 2, 3, 4, 5, 6, 7] ∧
  ∀ (st : Byte) (f : Flag) (on : Bool),
    getFlag st f = st.getLsbD f.bit ∧
    ∀ k : Nat, k < 8 → (setFlag st f on).getLsbD k = if k = f.bit then on else st.getLsbD k

/-! ### Loads, stores, transfers -/

/-- LDA in every mode: A is the operand, Z and N are its, one cycle more on a page crossing, nothing else changes
(42_load_store_transfer R140). -/
def Obligations.LdaLoadsA : Prop :=
  FormsAre .lda [(0xA9, .imm 0, 2), (0xA5, .zp 0, 3), (0xB5, .zpx 0, 4), (0xAD, .abs 0, 4), (0xBD, .abx 0, 4), (0xB9,
    .aby 0, 4), (0xA1, .izx 0, 6), (0xB1, .izy 0, 5)] ∧
  ∀ (i : Instr) (s : State), i.entry.op = .lda →
    exec i s = .next { s.advancedEligible i with
      a := s.operand i.entry.mode, status := nzStatus s.status (s.operand i.entry.mode) }

/-- LDX and LDY in every mode (R141, R142). -/
def Obligations.LdxLdyLoadTheIndex : Prop :=
  FormsAre .ldx [(0xA2, .imm 0, 2), (0xA6, .zp 0, 3), (0xB6, .zpy 0, 4), (0xAE, .abs 0, 4), (0xBE, .aby 0, 4)] ∧
  FormsAre .ldy [(0xA0, .imm 0, 2), (0xA4, .zp 0, 3), (0xB4, .zpx 0, 4), (0xAC, .abs 0, 4), (0xBC, .abx 0, 4)] ∧
  ∀ (i : Instr) (s : State), let m := s.operand i.entry.mode
    (i.entry.op = .ldx → exec i s = .next { s.advancedEligible i with x := m, status := nzStatus s.status m }) ∧
    (i.entry.op = .ldy → exec i s = .next { s.advancedEligible i with y := m, status := nzStatus s.status m })

/-- STA, STX, STY in every mode: the byte at the effective address becomes the register's; no flag, no extra cycle
(R143, R144, R145). -/
def Obligations.StoresWriteTheRegister : Prop :=
  FormsAre .sta [(0x85, .zp 0, 3), (0x95, .zpx 0, 4), (0x8D, .abs 0, 4), (0x9D, .abx 0, 5), (0x99, .aby 0, 5), (0x81,
    .izx 0, 6), (0x91, .izy 0, 6)] ∧
  FormsAre .stx [(0x86, .zp 0, 3), (0x96, .zpy 0, 4), (0x8E, .abs 0, 4)] ∧
  FormsAre .sty [(0x84, .zp 0, 3), (0x94, .zpx 0, 4), (0x8C, .abs 0, 4)] ∧
  ∀ (i : Instr) (s : State),
    (i.entry.op = .sta → exec i s = .next { s.advanced i with mem := Memory.write s.mem (s.ea i.entry.mode) s.a }) ∧
    (i.entry.op = .stx → exec i s = .next { s.advanced i with mem := Memory.write s.mem (s.ea i.entry.mode) s.x }) ∧
    (i.entry.op = .sty → exec i s = .next { s.advanced i with mem := Memory.write s.mem (s.ea i.entry.mode) s.y })

/-- The transfers that set Z and N (R146 to R150) and TXS, which sets no flag (R151). -/
def Obligations.TransfersCopyTheRegister : Prop :=
  FormsAre .tax [(0xAA, .imp, 2)] ∧ FormsAre .tay [(0xA8, .imp, 2)] ∧ FormsAre .txa [(0x8A, .imp, 2)] ∧
  FormsAre .tya [(0x98, .imp, 2)] ∧ FormsAre .tsx [(0xBA, .imp, 2)] ∧ FormsAre .txs [(0x9A, .imp, 2)] ∧
  ∀ s : State,
    exec .tax s = .next { s.advanced .tax with x := s.a, status := nzStatus s.status s.a } ∧
    exec .tay s = .next { s.advanced .tay with y := s.a, status := nzStatus s.status s.a } ∧
    exec .txa s = .next { s.advanced .txa with a := s.x, status := nzStatus s.status s.x } ∧
    exec .tya s = .next { s.advanced .tya with a := s.y, status := nzStatus s.status s.y } ∧
    exec .tsx s = .next { s.advanced .tsx with x := s.sp, status := nzStatus s.status s.sp } ∧
    exec .txs s = .next { s.advanced .txs with sp := s.x }

/-- The effective address of each memory mode, by the spec's formulas with sums of integers
(41_addressing_modes R124 to R127, R129 to R131, R133). -/
def Obligations.EffectiveAddresses : Prop :=
  ∀ (s : State) (b : Byte) (w : Word),
    (s.ea (.zp b)).toNat = b.toNat ∧
    (s.ea (.zpx b)).toNat = (b.toNat + s.x.toNat) % 256 ∧
    (s.ea (.zpy b)).toNat = (b.toNat + s.y.toNat) % 256 ∧
    s.ea (.abs w) = w ∧
    (s.ea (.abx w)).toNat = (w.toNat + s.x.toNat) % 65536 ∧
    (s.ea (.aby w)).toNat = (w.toNat + s.y.toNat) % 65536 ∧
    (s.ea (.ind w)).toNat = (s.read w).toNat +
      256 * (s.read (if w.toNat % 256 = 255 then w - 255 else w + 1)).toNat ∧
    (s.ea (.izx b)).toNat = (s.read (BitVec.ofNat 16 ((b.toNat + s.x.toNat) % 256))).toNat +
      256 * (s.read (BitVec.ofNat 16 ((b.toNat + s.x.toNat + 1) % 256))).toNat ∧
    (s.ea (.izy b)).toNat = ((s.read (BitVec.ofNat 16 b.toNat)).toNat +
      256 * (s.read (BitVec.ofNat 16 ((b.toNat + 1) % 256))).toNat + s.y.toNat) % 65536

/-- e1 holds exactly when the indexed address lies on another 256-byte page than its base (R127, R131, R135); a mode that
is not ABX, ABY or IZY never reports it. -/
def Obligations.PageCrossing : Prop :=
  ∀ (s : State) (m : Mode),
    s.crosses m = true ↔
      (∃ w, (m = .abx w ∧ (s.ea m).toNat / 256 ≠ w.toNat / 256) ∨ (m = .aby w ∧ (s.ea m).toNat / 256 ≠ w.toNat / 256)) ∨
      (∃ b, m = .izy b ∧ (s.ea m).toNat / 256 ≠ (s.readZP16 b).toNat / 256)

/-! ### Arithmetic, logic, compare, increment -/

/-- ADC in every mode, by the document's formulas, D not read (43_arithmetic_logic R160). -/
def Obligations.AdcAdds : Prop :=
  FormsAre .adc [(0x69, .imm 0, 2), (0x65, .zp 0, 3), (0x75, .zpx 0, 4), (0x6D, .abs 0, 4), (0x7D, .abx 0, 4), (0x79,
    .aby 0, 4), (0x61, .izx 0, 6), (0x71, .izy 0, 5)] ∧
  ∀ (i : Instr) (s : State), i.entry.op = .adc →
    exec i s = .next { s.advancedEligible i with
      a := BitVec.ofNat 8 (adcSum s (s.operand i.entry.mode)), status := adcStatus s (s.operand i.entry.mode) }

/-- SBC in every mode is ADC of the one's complement of the operand (R161). -/
def Obligations.SbcAddsTheComplement : Prop :=
  FormsAre .sbc [(0xE9, .imm 0, 2), (0xE5, .zp 0, 3), (0xF5, .zpx 0, 4), (0xED, .abs 0, 4), (0xFD, .abx 0, 4), (0xF9,
    .aby 0, 4), (0xE1, .izx 0, 6), (0xF1, .izy 0, 5)] ∧
  ∀ (i : Instr) (s : State), i.entry.op = .sbc →
    exec i s = .next { s.advancedEligible i with
      a := BitVec.ofNat 8 (adcSum s (s.operand i.entry.mode ^^^ 0xFF))
      status := adcStatus s (s.operand i.entry.mode ^^^ 0xFF) }

/-- The integer meaning of ADC and SBC: A modulo 256, C the unsigned carry or no-borrow, V the signed overflow. This
is R176, which the spec marks as derived from R160 and R161. -/
def Obligations.CarryAndOverflowAreIntegerFacts : Prop :=
  ∀ (i : Instr) (s t : State), exec i s = .next t →
    let m := s.operand i.entry.mode
    let c := flagNat s.status .c
    (i.entry.op = .adc →
      t.a.toNat = (s.a.toNat + m.toNat + c) % 256 ∧
      (getFlag t.status .c = true ↔ s.a.toNat + m.toNat + c > 255) ∧
      (getFlag t.status .v = true ↔ s.a.toInt + m.toInt + c < -128 ∨ s.a.toInt + m.toInt + c > 127)) ∧
    (i.entry.op = .sbc →
      (t.a.toNat : Int) = ((s.a.toNat : Int) - m.toNat - (1 - c)) % 256 ∧
      (getFlag t.status .c = true ↔ (s.a.toNat : Int) ≥ m.toNat + (1 - c)) ∧
      (getFlag t.status .v = true ↔
        s.a.toInt - m.toInt - (1 - c) < -128 ∨ s.a.toInt - m.toInt - (1 - c) > 127))

/-- AND, ORA and EOR in every mode (R162, R163, R164). -/
def Obligations.LogicIntoA : Prop :=
  FormsAre .and [(0x29, .imm 0, 2), (0x25, .zp 0, 3), (0x35, .zpx 0, 4), (0x2D, .abs 0, 4), (0x3D, .abx 0, 4), (0x39,
    .aby 0, 4), (0x21, .izx 0, 6), (0x31, .izy 0, 5)] ∧
  FormsAre .ora [(0x09, .imm 0, 2), (0x05, .zp 0, 3), (0x15, .zpx 0, 4), (0x0D, .abs 0, 4), (0x1D, .abx 0, 4), (0x19,
    .aby 0, 4), (0x01, .izx 0, 6), (0x11, .izy 0, 5)] ∧
  FormsAre .eor [(0x49, .imm 0, 2), (0x45, .zp 0, 3), (0x55, .zpx 0, 4), (0x4D, .abs 0, 4), (0x5D, .abx 0, 4), (0x59,
    .aby 0, 4), (0x41, .izx 0, 6), (0x51, .izy 0, 5)] ∧
  ∀ (i : Instr) (s : State), let m := s.operand i.entry.mode
    (i.entry.op = .and → exec i s = .next { s.advancedEligible i with
      a := s.a &&& m, status := nzStatus s.status (s.a &&& m) }) ∧
    (i.entry.op = .ora → exec i s = .next { s.advancedEligible i with
      a := s.a ||| m, status := nzStatus s.status (s.a ||| m) }) ∧
    (i.entry.op = .eor → exec i s = .next { s.advancedEligible i with
      a := s.a ^^^ m, status := nzStatus s.status (s.a ^^^ m) })

/-- CMP, CPX and CPY in every mode: C is the unsigned comparison, Z equality, N bit 7 of the difference; no register is
written (R165, R166, R167). -/
def Obligations.ComparesSetFlagsOnly : Prop :=
  FormsAre .cmp [(0xC9, .imm 0, 2), (0xC5, .zp 0, 3), (0xD5, .zpx 0, 4), (0xCD, .abs 0, 4), (0xDD, .abx 0, 4), (0xD9,
    .aby 0, 4), (0xC1, .izx 0, 6), (0xD1, .izy 0, 5)] ∧
  FormsAre .cpx [(0xE0, .imm 0, 2), (0xE4, .zp 0, 3), (0xEC, .abs 0, 4)] ∧
  FormsAre .cpy [(0xC0, .imm 0, 2), (0xC4, .zp 0, 3), (0xCC, .abs 0, 4)] ∧
  ∀ (i : Instr) (s : State), let m := s.operand i.entry.mode
    (i.entry.op = .cmp → exec i s = .next { s.advancedEligible i with
      status := cnzStatus s.status (decide (s.a.toNat ≥ m.toNat)) (s.a - m) }) ∧
    (i.entry.op = .cpx → exec i s = .next { s.advancedRead i with
      status := cnzStatus s.status (decide (s.x.toNat ≥ m.toNat)) (s.x - m) }) ∧
    (i.entry.op = .cpy → exec i s = .next { s.advancedRead i with
      status := cnzStatus s.status (decide (s.y.toNat ≥ m.toNat)) (s.y - m) })

/-- BIT in both modes: Z from A and M, V and N are bits 6 and 7 of M (R168). -/
def Obligations.BitTestsMemory : Prop :=
  FormsAre .bit [(0x24, .zp 0, 3), (0x2C, .abs 0, 4)] ∧
  ∀ (i : Instr) (s : State), i.entry.op = .bit →
    let m := s.operand i.entry.mode
    exec i s = .next { s.advancedRead i with
      status := withBits s.status 0xC2 (bitsIf (s.a &&& m == 0x00) 0x02 ||| (m &&& 0xC0)) }

/-- INC and DEC in every mode: one read and one write of the effective address (R169, R170). -/
def Obligations.IncDecMemory : Prop :=
  FormsAre .inc [(0xE6, .zp 0, 5), (0xF6, .zpx 0, 6), (0xEE, .abs 0, 6), (0xFE, .abx 0, 7)] ∧
  FormsAre .dec [(0xC6, .zp 0, 5), (0xD6, .zpx 0, 6), (0xCE, .abs 0, 6), (0xDE, .abx 0, 7)] ∧
  ∀ (i : Instr) (s : State), let m := s.operand i.entry.mode
    (i.entry.op = .inc → exec i s = .next { s.advancedRead i with
      mem := Memory.write s.mem (s.ea i.entry.mode) (m + 1), status := nzStatus s.status (m + 1) }) ∧
    (i.entry.op = .dec → exec i s = .next { s.advancedRead i with
      mem := Memory.write s.mem (s.ea i.entry.mode) (m - 1), status := nzStatus s.status (m - 1) })

/-- INX, INY, DEX, DEY (R171 to R174). -/
def Obligations.IncDecRegister : Prop :=
  FormsAre .inx [(0xE8, .imp, 2)] ∧ FormsAre .iny [(0xC8, .imp, 2)] ∧ FormsAre .dex [(0xCA, .imp, 2)] ∧
  FormsAre .dey [(0x88, .imp, 2)] ∧
  ∀ s : State,
    exec .inx s = .next { s.advanced .inx with x := s.x + 1, status := nzStatus s.status (s.x + 1) } ∧
    exec .iny s = .next { s.advanced .iny with y := s.y + 1, status := nzStatus s.status (s.y + 1) } ∧
    exec .dex s = .next { s.advanced .dex with x := s.x - 1, status := nzStatus s.status (s.x - 1) } ∧
    exec .dey s = .next { s.advanced .dey with y := s.y - 1, status := nzStatus s.status (s.y - 1) }

/-! ### Shifts and rotates -/

/-- ASL and LSR: on A in the accumulator form, on the byte at the effective address in every other (44_shift_rotate R190,
R191). -/
def Obligations.ShiftsByOneBit : Prop :=
  FormsAre .asl [(0x0A, .acc, 2), (0x06, .zp 0, 5), (0x16, .zpx 0, 6), (0x0E, .abs 0, 6), (0x1E, .abx 0, 7)] ∧
  FormsAre .lsr [(0x4A, .acc, 2), (0x46, .zp 0, 5), (0x56, .zpx 0, 6), (0x4E, .abs 0, 6), (0x5E, .abx 0, 7)] ∧
  ∀ (i : Instr) (s : State),
    let m := s.operand i.entry.mode
    let left := cnzStatus s.status (m.getLsbD 7) (m <<< 1)
    let right := cnzStatus s.status (m.getLsbD 0) (m >>> 1)
    (i.entry.op = .asl → exec i s = .next (
      if i.entry.mode = .acc then { s.advancedRead i with a := m <<< 1, status := left }
      else { s.advancedRead i with mem := Memory.write s.mem (s.ea i.entry.mode) (m <<< 1), status := left })) ∧
    (i.entry.op = .lsr → exec i s = .next (
      if i.entry.mode = .acc then { s.advancedRead i with a := m >>> 1, status := right }
      else { s.advancedRead i with mem := Memory.write s.mem (s.ea i.entry.mode) (m >>> 1), status := right }))

/-- ROL and ROR go through the carry: the old C enters, the bit shifted out is the new C (R192, R193). -/
def Obligations.RotatesThroughCarry : Prop :=
  FormsAre .rol [(0x2A, .acc, 2), (0x26, .zp 0, 5), (0x36, .zpx 0, 6), (0x2E, .abs 0, 6), (0x3E, .abx 0, 7)] ∧
  FormsAre .ror [(0x6A, .acc, 2), (0x66, .zp 0, 5), (0x76, .zpx 0, 6), (0x6E, .abs 0, 6), (0x7E, .abx 0, 7)] ∧
  ∀ (i : Instr) (s : State),
    let m := s.operand i.entry.mode
    let l := BitVec.ofNat 8 (2 * m.toNat + flagNat s.status .c)
    let r := BitVec.ofNat 8 (m.toNat / 2 + 128 * flagNat s.status .c)
    let left := cnzStatus s.status (decide (m.toNat ≥ 128)) l
    let right := cnzStatus s.status (decide (m.toNat % 2 = 1)) r
    (i.entry.op = .rol → exec i s = .next (
      if i.entry.mode = .acc then { s.advancedRead i with a := l, status := left }
      else { s.advancedRead i with mem := Memory.write s.mem (s.ea i.entry.mode) l, status := left })) ∧
    (i.entry.op = .ror → exec i s = .next (
      if i.entry.mode = .acc then { s.advancedRead i with a := r, status := right }
      else { s.advancedRead i with mem := Memory.write s.mem (s.ea i.entry.mode) r, status := right }))

/-! ### Flag and stack instructions -/

/-- The seven flag instructions write one bit each and nothing else (45_flag_instructions R200 to R206). -/
def Obligations.FlagInstructions : Prop :=
  FormsAre .clc [(0x18, .imp, 2)] ∧ FormsAre .cld [(0xD8, .imp, 2)] ∧ FormsAre .cli [(0x58, .imp, 2)] ∧
  FormsAre .clv [(0xB8, .imp, 2)] ∧ FormsAre .sec [(0x38, .imp, 2)] ∧ FormsAre .sed [(0xF8, .imp, 2)] ∧
  FormsAre .sei [(0x78, .imp, 2)] ∧
  ∀ s : State,
    exec .clc s = .next { s.advanced .clc with status := s.status &&& 0xFE } ∧
    exec .cld s = .next { s.advanced .cld with status := s.status &&& 0xF7 } ∧
    exec .cli s = .next { s.advanced .cli with status := s.status &&& 0xFB } ∧
    exec .clv s = .next { s.advanced .clv with status := s.status &&& 0xBF } ∧
    exec .sec s = .next { s.advanced .sec with status := s.status ||| 0x01 } ∧
    exec .sed s = .next { s.advanced .sed with status := s.status ||| 0x08 } ∧
    exec .sei s = .next { s.advanced .sei with status := s.status ||| 0x04 }

/-- PHA and PHP push at 0x0100 + SP and count SP down; PHP's byte is STATUS with PHP_PUSH_OR, 0x30 or 0x00, ORed in
(46_stack R210, R212, R213). -/
def Obligations.PushInstructions : Prop :=
  FormsAre .pha [(0x48, .imp, 3)] ∧ FormsAre .php [(0x08, .imp, 3)] ∧
  (phpPushOr = 0x30 ∨ phpPushOr = 0x00) ∧
  ∀ s : State,
    exec .pha s = .next { s.advanced .pha with
      mem := Memory.write s.mem (0x0100 + zext16 s.sp) s.a, sp := s.sp - 1 } ∧
    exec .php s = .next { s.advanced .php with
      mem := Memory.write s.mem (0x0100 + zext16 s.sp) (s.status ||| phpPushOr), sp := s.sp - 1 }

/-- PLA and PLP count SP up and read at 0x0100 + SP; PLA sets Z and N, PLP loads all of STATUS (R211, R214, R215). -/
def Obligations.PullInstructions : Prop :=
  FormsAre .pla [(0x68, .imp, 4)] ∧ FormsAre .plp [(0x28, .imp, 4)] ∧
  ∀ s : State, let v := s.read (0x0100 + zext16 (s.sp + 1))
    exec .pla s = .next { s.advanced .pla with a := v, sp := s.sp + 1, status := nzStatus s.status v } ∧
    exec .plp s = .next { s.advanced .plp with sp := s.sp + 1, status := v }

/-- A push and then a pop leave SP where it was and return the byte pushed, for every SP; so PHA then PLA restores A and SP.
This is R216, which the spec marks as derived from R210 and R211. -/
def Obligations.PushThenPullIsNetZero : Prop :=
  (∀ (s : State) (v : Byte), (s.push v).pop.2 = v ∧ (s.push v).pop.1.sp = s.sp) ∧
  ∀ s t u : State, exec .pha s = .next t → exec .pla t = .next u → u.a = s.a ∧ u.sp = s.sp

/-! ### Control transfer -/

/-- The eight branches: the flag and value each tests; not taken 2 pulses, taken 3, taken to another page 4, the first of
which this is (47_control_transfer R220 to R228). -/
def Obligations.Branches : Prop :=
  FormsAre .bcc [(0x90, .rel 0, 2)] ∧ FormsAre .bcs [(0xB0, .rel 0, 2)] ∧ FormsAre .beq [(0xF0, .rel 0, 2)] ∧
  FormsAre .bmi [(0x30, .rel 0, 2)] ∧ FormsAre .bne [(0xD0, .rel 0, 2)] ∧ FormsAre .bpl [(0x10, .rel 0, 2)] ∧
  FormsAre .bvc [(0x50, .rel 0, 2)] ∧ FormsAre .bvs [(0x70, .rel 0, 2)] ∧
  ∀ (i : Instr) (s : State) (o : Byte) (f : Flag) (want : Bool),
    branchTest i.entry.op = some (f, want) → i.entry.mode = .rel o →
    let next := s.pc + 2
    let target := next + sext16 o
    exec i s = .next (
      if getFlag s.status f = want then
        { s.advanced i with
          pc := target, cycles := if target.toNat / 256 = next.toNat / 256 then 2 else 3 }
      else { s.advanced i with pc := next, cycles := 1 })

/-- JMP in both modes: PC is the effective address (R229). -/
def Obligations.JmpLoadsPc : Prop :=
  FormsAre .jmp [(0x4C, .abs 0, 3), (0x6C, .ind 0, 5)] ∧
  ∀ (i : Instr) (s : State), i.entry.op = .jmp →
    exec i s = .next { s.advanced i with pc := s.ea i.entry.mode }

/-- JSR pushes the address of its own last byte, high then low, and jumps (R230). -/
def Obligations.JsrPushesAndJumps : Prop :=
  FormsAre .jsr [(0x20, .abs 0, 6)] ∧
  ∀ (s : State) (w : Word), let r := s.pc + 2
    exec (.jsr w) s = .next { s.advanced (.jsr w) with
      mem := Memory.write (Memory.write s.mem (stackAddr s.sp) (hiByte r)) (stackAddr (s.sp - 1)) (loByte r)
      sp := s.sp - 2, pc := w }

/-- RTS pops low then high and adds 1 (R231). -/
def Obligations.RtsReturns : Prop :=
  FormsAre .rts [(0x60, .imp, 6)] ∧
  ∀ s : State, exec .rts s = .next { s.advanced .rts with
    sp := s.sp + 2
    pc := wordOf (s.read (stackAddr (s.sp + 2))) (s.read (stackAddr (s.sp + 1))) + 1 }

/-- RTS right after JSR returns to the byte after the JSR with SP restored (R230, R231). -/
def Obligations.RtsAfterJsr : Prop :=
  ∀ (s t u : State) (w : Word), exec (.jsr w) s = .next t → exec .rts t = .next u →
    u.pc = s.pc + 3 ∧ u.sp = s.sp

/-! ### System -/

/-- BRK pushes the address after its padding byte and STATUS with B and U set, sets I, and loads PC from 0xFFFE as it stood
before, whatever I holds (48_system R240). -/
def Obligations.BrkEntersTheHandler : Prop :=
  FormsAre .brk [(0x00, .imp, 7)] ∧
  ∀ s : State, let r := s.pc + 2
    exec .brk s = .next { s.advanced .brk with
      mem := Memory.write (Memory.write (Memory.write s.mem (stackAddr s.sp) (hiByte r))
        (stackAddr (s.sp - 1)) (loByte r)) (stackAddr (s.sp - 2)) (s.status ||| 0x30)
      sp := s.sp - 3, status := s.status ||| 0x04, pc := s.read16 0xFFFE }

/-- RTI takes STATUS from the stack with B and U cleared, then PC, with nothing added (R241). -/
def Obligations.RtiReturns : Prop :=
  FormsAre .rti [(0x40, .imp, 6)] ∧
  ∀ s : State, exec .rti s = .next { s.advanced .rti with
    sp := s.sp + 3, status := s.read (stackAddr (s.sp + 1)) &&& 0xCF
    pc := wordOf (s.read (stackAddr (s.sp + 3))) (s.read (stackAddr (s.sp + 2))) }

/-- RTI right after BRK returns to the address of BRK + 2 with SP restored and STATUS as it was but for B and U, which are
cleared (R240, R241). -/
def Obligations.RtiAfterBrk : Prop :=
  ∀ s t u : State, exec .brk s = .next t → exec .rti t = .next u →
    u.pc = s.pc + 2 ∧ u.sp = s.sp ∧ u.status = s.status &&& 0xCF

/-- NOP changes nothing but what every pulse does; an illegal opcode, whichever byte, is one byte long, changes nothing
either, and its base count lies in 1 to 8 (41_addressing_modes R134, 48_system R242, R243; the whole opcode is R244, whose
effect the spec marks as derived). -/
def Obligations.NopAndIllegalChangeNothing : Prop :=
  FormsAre .nop [(0xEA, .imp, 2)] ∧
  ∀ (s : State) (op : Byte),
    exec .nop s = .next { s with opcode := 0xEA, pc := s.pc + 1, fetched := s.a, cycles := 1 } ∧
    exec (.illegal op) s = .next { s with opcode := op, pc := s.pc + 1, cycles := illegalBaseCycles op - 1 } ∧
    ((Instr.illegal op).wellFormed = true ↔ op ∈ illegalOpcodes) ∧
    1 ≤ (illegalBaseCycles op).toNat ∧ (illegalBaseCycles op).toNat ≤ 8

/-! ### Whole-machine rules and frames -/

/-- No instruction changes a STATUS bit outside those the flag table gives its operation (10_state R29). -/
def Obligations.OnlyListedFlagsChange : Prop :=
  ∀ (i : Instr) (s t : State), exec i s = .next t →
    t.status &&& ~~~ flagsWritten i.entry.op = s.status &&& ~~~ flagsWritten i.entry.op

/-- No instruction changes a register outside those the register table gives it (10_state R20). -/
def Obligations.OnlyListedRegistersChange : Prop :=
  ∀ (i : Instr) (s t : State), exec i s = .next t →
    (writesA i = false → t.a = s.a) ∧ (writesX i.entry.op = false → t.x = s.x) ∧
    (writesY i.entry.op = false → t.y = s.y) ∧ (writesSp i.entry.op = false → t.sp = s.sp) ∧
    t.commands = s.commands

/-- An instruction that transfers no control leaves PC just past its own bytes, modulo 65536 (10_state R24,
40_execution_engine R101). -/
def Obligations.PcAdvancesPastTheInstruction : Prop :=
  ∀ (i : Instr) (s t : State), exec i s = .next t → transfersControl i.entry.op = false →
    t.pc.toNat = (s.pc.toNat + i.size) % 65536

/-- An instruction that neither stores nor pushes leaves every byte of memory as it was (20_memory R52, R53). -/
def Obligations.NonStoringLeaveMemory : Prop :=
  ∀ (i : Instr) (s t : State), exec i s = .next t → storesAtEA i = false → pushCount i.entry.op = 0 →
    ∀ addr : Word, t.read addr = s.read addr

/-- A store, INC, DEC or memory shift leaves every byte but the one at its effective address (R53, R63). -/
def Obligations.StoresLeaveOtherBytes : Prop :=
  ∀ (i : Instr) (s t : State), exec i s = .next t → storesAtEA i = true →
    ∀ addr : Word, addr ≠ s.ea i.entry.mode → t.read addr = s.read addr

/-- PHA, PHP, JSR and BRK leave every byte but those pushed, at 0x0100 + SP and below in page 1 (46_stack R210). -/
def Obligations.PushesLeaveOtherBytes : Prop :=
  ∀ (i : Instr) (s t : State), exec i s = .next t → storesAtEA i = false →
    ∀ addr : Word, (∀ k : Nat, k < pushCount i.entry.op → addr ≠ stackAddr (s.sp - BitVec.ofNat 8 k)) →
      t.read addr = s.read addr

/-- B, U and D decide nothing: an instruction other than PHP and BRK, which push the whole byte, run with those bits
changed gives the same state but for those bits (10_state R28, 43_arithmetic_logic R177). -/
def Obligations.DecimalBreakUnusedDecideNothing : Prop :=
  ∀ (i : Instr) (s : State) (st : Byte), i.entry.op ≠ .php → i.entry.op ≠ .brk →
    (st ^^^ s.status) &&& 0xC7 = 0x00 →
    ∃ t t' : State, exec i s = .next t ∧ exec i (s.setStatus st) = .next t' ∧
      t' = t.setStatus t'.status ∧ (t'.status ^^^ t.status) &&& 0xC7 = 0x00
end

