-- ==== Sys2Proof/Laws/Assembly.lean ====
section
/-! SUPPORT. The offset the assembler computes for a branch to a branch's target is the branch's offset byte. -/

namespace Sys2Proof

theorem loByte_sext16 (o : Byte) : loByte (sext16 o) = o := by
  unfold sext16
  split <;> (apply BitVec.eq_of_getLsbD_eq; intro k hk; interval_cases k <;> simp [loByte, zext16])

/-- Assembling a branch to its own target gives its offset byte (30_encoding R79). -/
theorem branchOffset_branchTarget (addr : Word) (o : Byte) : branchOffset addr (branchTarget addr o) = some o := by
  have h : addr + 2 + sext16 o - (addr + 2) = sext16 o := by bv_omega
  simp only [branchOffset, branchTarget, h, loByte_sext16, if_true]

end Sys2Proof
end

