-- ==== Sys2Proof/Laws/Decode.lean ====
section
/-! SUPPORT. What each row of the opcode map reads, and decoding three bytes. -/

namespace Sys2Proof

/-- What a row of the opcode map must deliver for an opcode byte: instructions of that opcode whose operand bytes are those
the row reads (30_encoding R70, R71). -/
def Row.Reads (b : Byte) : Row → Prop
  | .whole i => i.entry.opcode = b ∧ i.entry.mode.operandBytes = []
  | .withByte f => ∀ v, (f v).entry.opcode = b ∧ (f v).entry.mode.operandBytes = [v]
  | .withWord f => ∀ w, (f w).entry.opcode = b ∧ (f w).entry.mode.operandBytes = [loByte w, hiByte w]

/-- The legal instructions of a row. -/
def Row.Legal : Row → Prop
  | .whole i => i.entry.op ≠ .illegal ∧ i.entry.mode ≠ .ill ∧ i.wellFormed = true
  | .withByte f => ∀ v, (f v).entry.op ≠ .illegal ∧ (f v).entry.mode ≠ .ill ∧ (f v).wellFormed = true
  | .withWord f => ∀ w, (f w).entry.op ≠ .illegal ∧ (f w).entry.mode ≠ .ill ∧ (f w).wellFormed = true

theorem opcodeRow0_reads {n : Nat} {r : Row} (h : opcodeRow0 n = some r) :
    Row.Reads (BitVec.ofNat 8 (0x00 + n)) r ∧ r.Legal := by
  unfold opcodeRow0 at h
  split at h <;> cases h <;> simp [Row.Reads, Row.Legal, Instr.entry, Mode.operandBytes, Instr.wellFormed]

theorem opcodeRow1_reads {n : Nat} {r : Row} (h : opcodeRow1 n = some r) :
    Row.Reads (BitVec.ofNat 8 (0x10 + n)) r ∧ r.Legal := by
  unfold opcodeRow1 at h
  split at h <;> cases h <;> simp [Row.Reads, Row.Legal, Instr.entry, Mode.operandBytes, Instr.wellFormed]

theorem opcodeRow2_reads {n : Nat} {r : Row} (h : opcodeRow2 n = some r) :
    Row.Reads (BitVec.ofNat 8 (0x20 + n)) r ∧ r.Legal := by
  unfold opcodeRow2 at h
  split at h <;> cases h <;> simp [Row.Reads, Row.Legal, Instr.entry, Mode.operandBytes, Instr.wellFormed]

theorem opcodeRow3_reads {n : Nat} {r : Row} (h : opcodeRow3 n = some r) :
    Row.Reads (BitVec.ofNat 8 (0x30 + n)) r ∧ r.Legal := by
  unfold opcodeRow3 at h
  split at h <;> cases h <;> simp [Row.Reads, Row.Legal, Instr.entry, Mode.operandBytes, Instr.wellFormed]

theorem opcodeRow4_reads {n : Nat} {r : Row} (h : opcodeRow4 n = some r) :
    Row.Reads (BitVec.ofNat 8 (0x40 + n)) r ∧ r.Legal := by
  unfold opcodeRow4 at h
  split at h <;> cases h <;> simp [Row.Reads, Row.Legal, Instr.entry, Mode.operandBytes, Instr.wellFormed]

theorem opcodeRow5_reads {n : Nat} {r : Row} (h : opcodeRow5 n = some r) :
    Row.Reads (BitVec.ofNat 8 (0x50 + n)) r ∧ r.Legal := by
  unfold opcodeRow5 at h
  split at h <;> cases h <;> simp [Row.Reads, Row.Legal, Instr.entry, Mode.operandBytes, Instr.wellFormed]

theorem opcodeRow6_reads {n : Nat} {r : Row} (h : opcodeRow6 n = some r) :
    Row.Reads (BitVec.ofNat 8 (0x60 + n)) r ∧ r.Legal := by
  unfold opcodeRow6 at h
  split at h <;> cases h <;> simp [Row.Reads, Row.Legal, Instr.entry, Mode.operandBytes, Instr.wellFormed]

theorem opcodeRow7_reads {n : Nat} {r : Row} (h : opcodeRow7 n = some r) :
    Row.Reads (BitVec.ofNat 8 (0x70 + n)) r ∧ r.Legal := by
  unfold opcodeRow7 at h
  split at h <;> cases h <;> simp [Row.Reads, Row.Legal, Instr.entry, Mode.operandBytes, Instr.wellFormed]

theorem opcodeRow8_reads {n : Nat} {r : Row} (h : opcodeRow8 n = some r) :
    Row.Reads (BitVec.ofNat 8 (0x80 + n)) r ∧ r.Legal := by
  unfold opcodeRow8 at h
  split at h <;> cases h <;> simp [Row.Reads, Row.Legal, Instr.entry, Mode.operandBytes, Instr.wellFormed]

theorem opcodeRow9_reads {n : Nat} {r : Row} (h : opcodeRow9 n = some r) :
    Row.Reads (BitVec.ofNat 8 (0x90 + n)) r ∧ r.Legal := by
  unfold opcodeRow9 at h
  split at h <;> cases h <;> simp [Row.Reads, Row.Legal, Instr.entry, Mode.operandBytes, Instr.wellFormed]

theorem opcodeRowA_reads {n : Nat} {r : Row} (h : opcodeRowA n = some r) :
    Row.Reads (BitVec.ofNat 8 (0xA0 + n)) r ∧ r.Legal := by
  unfold opcodeRowA at h
  split at h <;> cases h <;> simp [Row.Reads, Row.Legal, Instr.entry, Mode.operandBytes, Instr.wellFormed]

theorem opcodeRowB_reads {n : Nat} {r : Row} (h : opcodeRowB n = some r) :
    Row.Reads (BitVec.ofNat 8 (0xB0 + n)) r ∧ r.Legal := by
  unfold opcodeRowB at h
  split at h <;> cases h <;> simp [Row.Reads, Row.Legal, Instr.entry, Mode.operandBytes, Instr.wellFormed]

theorem opcodeRowC_reads {n : Nat} {r : Row} (h : opcodeRowC n = some r) :
    Row.Reads (BitVec.ofNat 8 (0xC0 + n)) r ∧ r.Legal := by
  unfold opcodeRowC at h
  split at h <;> cases h <;> simp [Row.Reads, Row.Legal, Instr.entry, Mode.operandBytes, Instr.wellFormed]

theorem opcodeRowD_reads {n : Nat} {r : Row} (h : opcodeRowD n = some r) :
    Row.Reads (BitVec.ofNat 8 (0xD0 + n)) r ∧ r.Legal := by
  unfold opcodeRowD at h
  split at h <;> cases h <;> simp [Row.Reads, Row.Legal, Instr.entry, Mode.operandBytes, Instr.wellFormed]

theorem opcodeRowE_reads {n : Nat} {r : Row} (h : opcodeRowE n = some r) :
    Row.Reads (BitVec.ofNat 8 (0xE0 + n)) r ∧ r.Legal := by
  unfold opcodeRowE at h
  split at h <;> cases h <;> simp [Row.Reads, Row.Legal, Instr.entry, Mode.operandBytes, Instr.wellFormed]

theorem opcodeRowF_reads {n : Nat} {r : Row} (h : opcodeRowF n = some r) :
    Row.Reads (BitVec.ofNat 8 (0xF0 + n)) r ∧ r.Legal := by
  unfold opcodeRowF at h
  split at h <;> cases h <;> simp [Row.Reads, Row.Legal, Instr.entry, Mode.operandBytes, Instr.wellFormed]

/-- A legal row reads what its opcode byte asks for (30_encoding R73). -/
theorem legalRow_reads {b : Byte} {r : Row} (h : legalRow b = some r) : Row.Reads b r ∧ r.Legal := by
  have hb := b.isLt
  have key : ∀ k, b.toNat / 16 = k → BitVec.ofNat 8 (16 * k + b.toNat % 16) = b := by
    intro k hk
    apply BitVec.eq_of_toNat_eq
    rw [BitVec.toNat_ofNat]
    omega
  unfold legalRow at h
  split at h
  · next hk => exact key _ hk ▸ opcodeRow0_reads h
  · next hk => exact key _ hk ▸ opcodeRow1_reads h
  · next hk => exact key _ hk ▸ opcodeRow2_reads h
  · next hk => exact key _ hk ▸ opcodeRow3_reads h
  · next hk => exact key _ hk ▸ opcodeRow4_reads h
  · next hk => exact key _ hk ▸ opcodeRow5_reads h
  · next hk => exact key _ hk ▸ opcodeRow6_reads h
  · next hk => exact key _ hk ▸ opcodeRow7_reads h
  · next hk => exact key _ hk ▸ opcodeRow8_reads h
  · next hk => exact key _ hk ▸ opcodeRow9_reads h
  · next hk => exact key _ hk ▸ opcodeRowA_reads h
  · next hk => exact key _ hk ▸ opcodeRowB_reads h
  · next hk => exact key _ hk ▸ opcodeRowC_reads h
  · next hk => exact key _ hk ▸ opcodeRowD_reads h
  · next hk => exact key _ hk ▸ opcodeRowE_reads h
  · next hk => exact key _ hk ▸ opcodeRowF_reads h
  · cases h

/-- Every opcode byte has a row that reads what it asks for (30_encoding R72). -/
theorem rowOf_reads (b : Byte) : Row.Reads b (rowOf b) := by
  unfold rowOf
  cases h : legalRow b with
  | none => exact ⟨rfl, rfl⟩
  | some r => exact (legalRow_reads h).1

/-- Decoding three bytes or more reads the instruction fetch reads (40_execution_engine R101). -/
theorem decode_three (b0 b1 b2 : Byte) (rest : List Byte) :
    decode (b0 :: b1 :: b2 :: rest) = .ok (decodeBytes b0 b1 b2,
      (b1 :: b2 :: rest).drop (decodeBytes b0 b1 b2).entry.mode.operandBytes.length) := by
  have h := rowOf_reads b0
  cases hr : rowOf b0 with
  | whole i => rw [hr] at h; simp [decode, decodeBytes, hr, h.2]
  | withByte f => rw [hr] at h; simp [decode, decodeBytes, hr, (h b1).2]
  | withWord f => rw [hr] at h; simp [decode, decodeBytes, hr, (h (wordOf b2 b1)).2]

/-- The instruction fetched from three bytes has the first one as its opcode and the next ones as its operand bytes. -/
theorem decodeBytes_reads (b0 b1 b2 : Byte) :
    (decodeBytes b0 b1 b2).entry.opcode = b0 ∧
    (decodeBytes b0 b1 b2).entry.mode.operandBytes =
      [b1, b2].take (decodeBytes b0 b1 b2).entry.mode.operandBytes.length := by
  have h := rowOf_reads b0
  unfold decodeBytes
  cases hr : rowOf b0 with
  | whole i => rw [hr] at h; simp [h.1, h.2]
  | withByte f => rw [hr] at h; simp [(h b1).1, (h b1).2]
  | withWord f => rw [hr] at h; simp [(h (wordOf b2 b1)).1, (h (wordOf b2 b1)).2]

end Sys2Proof
end

