-- ==== Sys2Proof/Laws/Flags.lean ====
section
/-! SUPPORT. The flag codec bit by bit, and every flag computation as the masks of Sys2Proof/Safety.lean write it. -/

namespace Sys2Proof.Machine

/-- Bit k of STATUS after `set_flag` (10_state R26). -/
theorem getLsbD_setFlag (st : Byte) (f : Flag) (on : Bool) (k : Nat) (hk : k < 8) :
    (setFlag st f on).getLsbD k = if k = f.bit then on else st.getLsbD k := by
  cases f <;> cases on <;> interval_cases k <;> simp [setFlag, Flag.mask, Flag.bit]

theorem Flag.bit_lt (f : Flag) : f.bit < 8 := by cases f <;> decide

theorem Flag.bit_inj {f g : Flag} : f.bit = g.bit ↔ f = g := by cases f <;> cases g <;> decide

/-- Two STATUS bytes are equal when their eight bits are. -/
theorem byte_ext {v w : Byte} (h : ∀ k, k < 8 → v.getLsbD k = w.getLsbD k) : v = w :=
  BitVec.eq_of_getLsbD_eq fun k hk => h k hk

/-- Bit k of a mask held by a condition. -/
theorem getLsbD_bitsIf (cond : Bool) (mask : Byte) (k : Nat) :
    (bitsIf cond mask).getLsbD k = (cond && mask.getLsbD k) := by
  cases cond <;> simp [bitsIf]

/-- Bit k of a byte with the bits of a mask replaced. -/
theorem getLsbD_withBits (st mask bits : Byte) (k : Nat) (hk : k < 8) :
    (withBits st mask bits).getLsbD k = if mask.getLsbD k then bits.getLsbD k else st.getLsbD k := by
  simp only [withBits, BitVec.getLsbD_or, BitVec.getLsbD_and, BitVec.getLsbD_not, hk, decide_true, Bool.true_and]
  cases mask.getLsbD k <;> simp

/-- `SetNZ` by mask (10_state R27). -/
theorem setNZ_eq (st v : Byte) : setNZ st v = nzStatus st v := by
  refine byte_ext fun k hk => ?_
  rw [setNZ, nzStatus, getLsbD_withBits _ _ _ _ hk, getLsbD_setFlag _ _ _ _ hk, getLsbD_setFlag _ _ _ _ hk,
    BitVec.getLsbD_or, getLsbD_bitsIf, BitVec.getLsbD_and]
  interval_cases k <;> simp [Flag.bit, BitVec.msb_eq_getLsbD_last]

/-- C, Z and N by mask. -/
theorem setCNZ_eq (st : Byte) (c : Bool) (v : Byte) : setCNZ st c v = cnzStatus st c v := by
  refine byte_ext fun k hk => ?_
  rw [setCNZ, setNZ, cnzStatus, getLsbD_withBits _ _ _ _ hk, getLsbD_setFlag _ _ _ _ hk, getLsbD_setFlag _ _ _ _ hk,
    getLsbD_setFlag _ _ _ _ hk, BitVec.getLsbD_or, BitVec.getLsbD_or, getLsbD_bitsIf, getLsbD_bitsIf, BitVec.getLsbD_and]
  interval_cases k <;> simp [Flag.bit, BitVec.msb_eq_getLsbD_last]

/-- Clearing and setting one flag, as a mask operation (45_flag_instructions). -/
theorem setFlag_true (st : Byte) (f : Flag) : setFlag st f true = st ||| f.mask := rfl

theorem setFlag_false (st : Byte) (f : Flag) : setFlag st f false = st &&& ~~~ f.mask := rfl

/-- STATUS as irq and nmi leave it (60_exceptions R311). -/
theorem interruptStatus_eq (st : Byte) : interruptStatus st = (st &&& 0xEF) ||| 0x24 := by
  refine byte_ext fun k hk => ?_
  rw [interruptStatus, getLsbD_setFlag _ _ _ _ hk, getLsbD_setFlag _ _ _ _ hk, getLsbD_setFlag _ _ _ _ hk]
  interval_cases k <;> simp [Flag.bit]

/-- The widened sum as an integer (43_arithmetic_logic R160). -/
theorem toNat_wideSum (a m : Byte) (carry : Bool) :
    (wideSum a m carry).toNat = a.toNat + m.toNat + (if carry then 1 else 0) := by
  have ha := a.isLt
  have hm := m.isLt
  cases carry <;> simp [wideSum, BitVec.toNat_add] <;> omega

/-- The byte ADC leaves in A, from the integer sum. -/
theorem addResult_eq (st a m : Byte) : addResult st a m = BitVec.ofNat 8 (a.toNat + m.toNat + flagNat st .c) := by
  apply BitVec.eq_of_toNat_eq
  simp [addResult, toNat_wideSum, flagNat]

/-- STATUS after ADC, by mask, from the integer sum. -/
theorem addStatus_eq (s : State) (m : Byte) : addStatus s.status s.a m = adcStatus s m := by
  have hr : (wideSum s.a m (getFlag s.status .c)).setWidth 8 = BitVec.ofNat 8 (adcSum s m) := addResult_eq _ _ _
  have hn : (wideSum s.a m (getFlag s.status .c)).toNat = adcSum s m := by simp [toNat_wideSum, adcSum, flagNat]
  refine byte_ext fun k hk => ?_
  simp only [addStatus, adcStatus, hr, hn]
  rw [getLsbD_withBits _ _ _ _ hk, getLsbD_setFlag _ _ _ _ hk, getLsbD_setFlag _ _ _ _ hk,
    getLsbD_setFlag _ _ _ _ hk, getLsbD_setFlag _ _ _ _ hk, BitVec.getLsbD_or, BitVec.getLsbD_or, BitVec.getLsbD_or,
    getLsbD_bitsIf, getLsbD_bitsIf, getLsbD_bitsIf, BitVec.getLsbD_and]
  interval_cases k <;> simp [Flag.bit, BitVec.msb_eq_getLsbD_last]

/-- STATUS after a compare, by mask (R165 to R167). -/
theorem compareStatus_eq (st r m : Byte) :
    compareStatus st r m = cnzStatus st (decide (r.toNat ≥ m.toNat)) (r - m) := by
  have hz : (r == m) = (r - m == 0x00) := by
    rw [Bool.eq_iff_iff, beq_iff_eq, beq_iff_eq]
    constructor
    · rintro rfl; exact BitVec.sub_self r
    · intro h; exact BitVec.eq_of_toNat_eq (by bv_omega)
  rw [← setCNZ_eq, compareStatus, setCNZ, setNZ, hz]

/-- STATUS after BIT, by mask (R168). -/
theorem bitStatus_eq (st a m : Byte) :
    bitStatus st a m = withBits st 0xC2 (bitsIf (a &&& m == 0x00) 0x02 ||| (m &&& 0xC0)) := by
  refine byte_ext fun k hk => ?_
  rw [bitStatus, getLsbD_withBits _ _ _ _ hk, getLsbD_setFlag _ _ _ _ hk, getLsbD_setFlag _ _ _ _ hk,
    getLsbD_setFlag _ _ _ _ hk, BitVec.getLsbD_or, getLsbD_bitsIf, BitVec.getLsbD_and]
  interval_cases k <;> simp [Flag.bit]

end Sys2Proof.Machine
end

