-- ==== Sys2Proof/Laws/State.lean ====
section
/-! SUPPORT. What each update of the state does to each field, and to what is read through a field. -/

namespace Sys2Proof.Machine

@[simp] theorem State.setA_a (s : State) (v : Byte) : (s.setA v).a = v := rfl
@[simp] theorem State.setA_x (s : State) (v : Byte) : (s.setA v).x = s.x := rfl
@[simp] theorem State.setA_y (s : State) (v : Byte) : (s.setA v).y = s.y := rfl
@[simp] theorem State.setA_sp (s : State) (v : Byte) : (s.setA v).sp = s.sp := rfl
@[simp] theorem State.setA_pc (s : State) (v : Byte) : (s.setA v).pc = s.pc := rfl
@[simp] theorem State.setA_status (s : State) (v : Byte) : (s.setA v).status = s.status := rfl
@[simp] theorem State.setA_opcode (s : State) (v : Byte) : (s.setA v).opcode = s.opcode := rfl
@[simp] theorem State.setA_fetched (s : State) (v : Byte) : (s.setA v).fetched = s.fetched := rfl
@[simp] theorem State.setA_addrAbs (s : State) (v : Byte) : (s.setA v).addrAbs = s.addrAbs := rfl
@[simp] theorem State.setA_addrRel (s : State) (v : Byte) : (s.setA v).addrRel = s.addrRel := rfl
@[simp] theorem State.setA_cycles (s : State) (v : Byte) : (s.setA v).cycles = s.cycles := rfl
@[simp] theorem State.setA_mem (s : State) (v : Byte) : (s.setA v).mem = s.mem := rfl
@[simp] theorem State.setA_commands (s : State) (v : Byte) : (s.setA v).commands = s.commands := rfl

@[simp] theorem State.setX_a (s : State) (v : Byte) : (s.setX v).a = s.a := rfl
@[simp] theorem State.setX_x (s : State) (v : Byte) : (s.setX v).x = v := rfl
@[simp] theorem State.setX_y (s : State) (v : Byte) : (s.setX v).y = s.y := rfl
@[simp] theorem State.setX_sp (s : State) (v : Byte) : (s.setX v).sp = s.sp := rfl
@[simp] theorem State.setX_pc (s : State) (v : Byte) : (s.setX v).pc = s.pc := rfl
@[simp] theorem State.setX_status (s : State) (v : Byte) : (s.setX v).status = s.status := rfl
@[simp] theorem State.setX_opcode (s : State) (v : Byte) : (s.setX v).opcode = s.opcode := rfl
@[simp] theorem State.setX_fetched (s : State) (v : Byte) : (s.setX v).fetched = s.fetched := rfl
@[simp] theorem State.setX_addrAbs (s : State) (v : Byte) : (s.setX v).addrAbs = s.addrAbs := rfl
@[simp] theorem State.setX_addrRel (s : State) (v : Byte) : (s.setX v).addrRel = s.addrRel := rfl
@[simp] theorem State.setX_cycles (s : State) (v : Byte) : (s.setX v).cycles = s.cycles := rfl
@[simp] theorem State.setX_mem (s : State) (v : Byte) : (s.setX v).mem = s.mem := rfl
@[simp] theorem State.setX_commands (s : State) (v : Byte) : (s.setX v).commands = s.commands := rfl

@[simp] theorem State.setY_a (s : State) (v : Byte) : (s.setY v).a = s.a := rfl
@[simp] theorem State.setY_x (s : State) (v : Byte) : (s.setY v).x = s.x := rfl
@[simp] theorem State.setY_y (s : State) (v : Byte) : (s.setY v).y = v := rfl
@[simp] theorem State.setY_sp (s : State) (v : Byte) : (s.setY v).sp = s.sp := rfl
@[simp] theorem State.setY_pc (s : State) (v : Byte) : (s.setY v).pc = s.pc := rfl
@[simp] theorem State.setY_status (s : State) (v : Byte) : (s.setY v).status = s.status := rfl
@[simp] theorem State.setY_opcode (s : State) (v : Byte) : (s.setY v).opcode = s.opcode := rfl
@[simp] theorem State.setY_fetched (s : State) (v : Byte) : (s.setY v).fetched = s.fetched := rfl
@[simp] theorem State.setY_addrAbs (s : State) (v : Byte) : (s.setY v).addrAbs = s.addrAbs := rfl
@[simp] theorem State.setY_addrRel (s : State) (v : Byte) : (s.setY v).addrRel = s.addrRel := rfl
@[simp] theorem State.setY_cycles (s : State) (v : Byte) : (s.setY v).cycles = s.cycles := rfl
@[simp] theorem State.setY_mem (s : State) (v : Byte) : (s.setY v).mem = s.mem := rfl
@[simp] theorem State.setY_commands (s : State) (v : Byte) : (s.setY v).commands = s.commands := rfl

@[simp] theorem State.setSp_a (s : State) (v : Byte) : (s.setSp v).a = s.a := rfl
@[simp] theorem State.setSp_x (s : State) (v : Byte) : (s.setSp v).x = s.x := rfl
@[simp] theorem State.setSp_y (s : State) (v : Byte) : (s.setSp v).y = s.y := rfl
@[simp] theorem State.setSp_sp (s : State) (v : Byte) : (s.setSp v).sp = v := rfl
@[simp] theorem State.setSp_pc (s : State) (v : Byte) : (s.setSp v).pc = s.pc := rfl
@[simp] theorem State.setSp_status (s : State) (v : Byte) : (s.setSp v).status = s.status := rfl
@[simp] theorem State.setSp_opcode (s : State) (v : Byte) : (s.setSp v).opcode = s.opcode := rfl
@[simp] theorem State.setSp_fetched (s : State) (v : Byte) : (s.setSp v).fetched = s.fetched := rfl
@[simp] theorem State.setSp_addrAbs (s : State) (v : Byte) : (s.setSp v).addrAbs = s.addrAbs := rfl
@[simp] theorem State.setSp_addrRel (s : State) (v : Byte) : (s.setSp v).addrRel = s.addrRel := rfl
@[simp] theorem State.setSp_cycles (s : State) (v : Byte) : (s.setSp v).cycles = s.cycles := rfl
@[simp] theorem State.setSp_mem (s : State) (v : Byte) : (s.setSp v).mem = s.mem := rfl
@[simp] theorem State.setSp_commands (s : State) (v : Byte) : (s.setSp v).commands = s.commands := rfl

@[simp] theorem State.setPc_a (s : State) (v : Word) : (s.setPc v).a = s.a := rfl
@[simp] theorem State.setPc_x (s : State) (v : Word) : (s.setPc v).x = s.x := rfl
@[simp] theorem State.setPc_y (s : State) (v : Word) : (s.setPc v).y = s.y := rfl
@[simp] theorem State.setPc_sp (s : State) (v : Word) : (s.setPc v).sp = s.sp := rfl
@[simp] theorem State.setPc_pc (s : State) (v : Word) : (s.setPc v).pc = v := rfl
@[simp] theorem State.setPc_status (s : State) (v : Word) : (s.setPc v).status = s.status := rfl
@[simp] theorem State.setPc_opcode (s : State) (v : Word) : (s.setPc v).opcode = s.opcode := rfl
@[simp] theorem State.setPc_fetched (s : State) (v : Word) : (s.setPc v).fetched = s.fetched := rfl
@[simp] theorem State.setPc_addrAbs (s : State) (v : Word) : (s.setPc v).addrAbs = s.addrAbs := rfl
@[simp] theorem State.setPc_addrRel (s : State) (v : Word) : (s.setPc v).addrRel = s.addrRel := rfl
@[simp] theorem State.setPc_cycles (s : State) (v : Word) : (s.setPc v).cycles = s.cycles := rfl
@[simp] theorem State.setPc_mem (s : State) (v : Word) : (s.setPc v).mem = s.mem := rfl
@[simp] theorem State.setPc_commands (s : State) (v : Word) : (s.setPc v).commands = s.commands := rfl

@[simp] theorem State.setStatus_a (s : State) (v : Byte) : (s.setStatus v).a = s.a := rfl
@[simp] theorem State.setStatus_x (s : State) (v : Byte) : (s.setStatus v).x = s.x := rfl
@[simp] theorem State.setStatus_y (s : State) (v : Byte) : (s.setStatus v).y = s.y := rfl
@[simp] theorem State.setStatus_sp (s : State) (v : Byte) : (s.setStatus v).sp = s.sp := rfl
@[simp] theorem State.setStatus_pc (s : State) (v : Byte) : (s.setStatus v).pc = s.pc := rfl
@[simp] theorem State.setStatus_status (s : State) (v : Byte) : (s.setStatus v).status = v := rfl
@[simp] theorem State.setStatus_opcode (s : State) (v : Byte) : (s.setStatus v).opcode = s.opcode := rfl
@[simp] theorem State.setStatus_fetched (s : State) (v : Byte) : (s.setStatus v).fetched = s.fetched := rfl
@[simp] theorem State.setStatus_addrAbs (s : State) (v : Byte) : (s.setStatus v).addrAbs = s.addrAbs := rfl
@[simp] theorem State.setStatus_addrRel (s : State) (v : Byte) : (s.setStatus v).addrRel = s.addrRel := rfl
@[simp] theorem State.setStatus_cycles (s : State) (v : Byte) : (s.setStatus v).cycles = s.cycles := rfl
@[simp] theorem State.setStatus_mem (s : State) (v : Byte) : (s.setStatus v).mem = s.mem := rfl
@[simp] theorem State.setStatus_commands (s : State) (v : Byte) : (s.setStatus v).commands = s.commands := rfl

@[simp] theorem State.setOpcode_a (s : State) (v : Byte) : (s.setOpcode v).a = s.a := rfl
@[simp] theorem State.setOpcode_x (s : State) (v : Byte) : (s.setOpcode v).x = s.x := rfl
@[simp] theorem State.setOpcode_y (s : State) (v : Byte) : (s.setOpcode v).y = s.y := rfl
@[simp] theorem State.setOpcode_sp (s : State) (v : Byte) : (s.setOpcode v).sp = s.sp := rfl
@[simp] theorem State.setOpcode_pc (s : State) (v : Byte) : (s.setOpcode v).pc = s.pc := rfl
@[simp] theorem State.setOpcode_status (s : State) (v : Byte) : (s.setOpcode v).status = s.status := rfl
@[simp] theorem State.setOpcode_opcode (s : State) (v : Byte) : (s.setOpcode v).opcode = v := rfl
@[simp] theorem State.setOpcode_fetched (s : State) (v : Byte) : (s.setOpcode v).fetched = s.fetched := rfl
@[simp] theorem State.setOpcode_addrAbs (s : State) (v : Byte) : (s.setOpcode v).addrAbs = s.addrAbs := rfl
@[simp] theorem State.setOpcode_addrRel (s : State) (v : Byte) : (s.setOpcode v).addrRel = s.addrRel := rfl
@[simp] theorem State.setOpcode_cycles (s : State) (v : Byte) : (s.setOpcode v).cycles = s.cycles := rfl
@[simp] theorem State.setOpcode_mem (s : State) (v : Byte) : (s.setOpcode v).mem = s.mem := rfl
@[simp] theorem State.setOpcode_commands (s : State) (v : Byte) : (s.setOpcode v).commands = s.commands := rfl

@[simp] theorem State.setFetched_a (s : State) (v : Byte) : (s.setFetched v).a = s.a := rfl
@[simp] theorem State.setFetched_x (s : State) (v : Byte) : (s.setFetched v).x = s.x := rfl
@[simp] theorem State.setFetched_y (s : State) (v : Byte) : (s.setFetched v).y = s.y := rfl
@[simp] theorem State.setFetched_sp (s : State) (v : Byte) : (s.setFetched v).sp = s.sp := rfl
@[simp] theorem State.setFetched_pc (s : State) (v : Byte) : (s.setFetched v).pc = s.pc := rfl
@[simp] theorem State.setFetched_status (s : State) (v : Byte) : (s.setFetched v).status = s.status := rfl
@[simp] theorem State.setFetched_opcode (s : State) (v : Byte) : (s.setFetched v).opcode = s.opcode := rfl
@[simp] theorem State.setFetched_fetched (s : State) (v : Byte) : (s.setFetched v).fetched = v := rfl
@[simp] theorem State.setFetched_addrAbs (s : State) (v : Byte) : (s.setFetched v).addrAbs = s.addrAbs := rfl
@[simp] theorem State.setFetched_addrRel (s : State) (v : Byte) : (s.setFetched v).addrRel = s.addrRel := rfl
@[simp] theorem State.setFetched_cycles (s : State) (v : Byte) : (s.setFetched v).cycles = s.cycles := rfl
@[simp] theorem State.setFetched_mem (s : State) (v : Byte) : (s.setFetched v).mem = s.mem := rfl
@[simp] theorem State.setFetched_commands (s : State) (v : Byte) : (s.setFetched v).commands = s.commands := rfl

@[simp] theorem State.setAddrAbs_a (s : State) (v : Word) : (s.setAddrAbs v).a = s.a := rfl
@[simp] theorem State.setAddrAbs_x (s : State) (v : Word) : (s.setAddrAbs v).x = s.x := rfl
@[simp] theorem State.setAddrAbs_y (s : State) (v : Word) : (s.setAddrAbs v).y = s.y := rfl
@[simp] theorem State.setAddrAbs_sp (s : State) (v : Word) : (s.setAddrAbs v).sp = s.sp := rfl
@[simp] theorem State.setAddrAbs_pc (s : State) (v : Word) : (s.setAddrAbs v).pc = s.pc := rfl
@[simp] theorem State.setAddrAbs_status (s : State) (v : Word) : (s.setAddrAbs v).status = s.status := rfl
@[simp] theorem State.setAddrAbs_opcode (s : State) (v : Word) : (s.setAddrAbs v).opcode = s.opcode := rfl
@[simp] theorem State.setAddrAbs_fetched (s : State) (v : Word) : (s.setAddrAbs v).fetched = s.fetched := rfl
@[simp] theorem State.setAddrAbs_addrAbs (s : State) (v : Word) : (s.setAddrAbs v).addrAbs = v := rfl
@[simp] theorem State.setAddrAbs_addrRel (s : State) (v : Word) : (s.setAddrAbs v).addrRel = s.addrRel := rfl
@[simp] theorem State.setAddrAbs_cycles (s : State) (v : Word) : (s.setAddrAbs v).cycles = s.cycles := rfl
@[simp] theorem State.setAddrAbs_mem (s : State) (v : Word) : (s.setAddrAbs v).mem = s.mem := rfl
@[simp] theorem State.setAddrAbs_commands (s : State) (v : Word) : (s.setAddrAbs v).commands = s.commands := rfl

@[simp] theorem State.setAddrRel_a (s : State) (v : Word) : (s.setAddrRel v).a = s.a := rfl
@[simp] theorem State.setAddrRel_x (s : State) (v : Word) : (s.setAddrRel v).x = s.x := rfl
@[simp] theorem State.setAddrRel_y (s : State) (v : Word) : (s.setAddrRel v).y = s.y := rfl
@[simp] theorem State.setAddrRel_sp (s : State) (v : Word) : (s.setAddrRel v).sp = s.sp := rfl
@[simp] theorem State.setAddrRel_pc (s : State) (v : Word) : (s.setAddrRel v).pc = s.pc := rfl
@[simp] theorem State.setAddrRel_status (s : State) (v : Word) : (s.setAddrRel v).status = s.status := rfl
@[simp] theorem State.setAddrRel_opcode (s : State) (v : Word) : (s.setAddrRel v).opcode = s.opcode := rfl
@[simp] theorem State.setAddrRel_fetched (s : State) (v : Word) : (s.setAddrRel v).fetched = s.fetched := rfl
@[simp] theorem State.setAddrRel_addrAbs (s : State) (v : Word) : (s.setAddrRel v).addrAbs = s.addrAbs := rfl
@[simp] theorem State.setAddrRel_addrRel (s : State) (v : Word) : (s.setAddrRel v).addrRel = v := rfl
@[simp] theorem State.setAddrRel_cycles (s : State) (v : Word) : (s.setAddrRel v).cycles = s.cycles := rfl
@[simp] theorem State.setAddrRel_mem (s : State) (v : Word) : (s.setAddrRel v).mem = s.mem := rfl
@[simp] theorem State.setAddrRel_commands (s : State) (v : Word) : (s.setAddrRel v).commands = s.commands := rfl

@[simp] theorem State.setCycles_a (s : State) (v : Byte) : (s.setCycles v).a = s.a := rfl
@[simp] theorem State.setCycles_x (s : State) (v : Byte) : (s.setCycles v).x = s.x := rfl
@[simp] theorem State.setCycles_y (s : State) (v : Byte) : (s.setCycles v).y = s.y := rfl
@[simp] theorem State.setCycles_sp (s : State) (v : Byte) : (s.setCycles v).sp = s.sp := rfl
@[simp] theorem State.setCycles_pc (s : State) (v : Byte) : (s.setCycles v).pc = s.pc := rfl
@[simp] theorem State.setCycles_status (s : State) (v : Byte) : (s.setCycles v).status = s.status := rfl
@[simp] theorem State.setCycles_opcode (s : State) (v : Byte) : (s.setCycles v).opcode = s.opcode := rfl
@[simp] theorem State.setCycles_fetched (s : State) (v : Byte) : (s.setCycles v).fetched = s.fetched := rfl
@[simp] theorem State.setCycles_addrAbs (s : State) (v : Byte) : (s.setCycles v).addrAbs = s.addrAbs := rfl
@[simp] theorem State.setCycles_addrRel (s : State) (v : Byte) : (s.setCycles v).addrRel = s.addrRel := rfl
@[simp] theorem State.setCycles_cycles (s : State) (v : Byte) : (s.setCycles v).cycles = v := rfl
@[simp] theorem State.setCycles_mem (s : State) (v : Byte) : (s.setCycles v).mem = s.mem := rfl
@[simp] theorem State.setCycles_commands (s : State) (v : Byte) : (s.setCycles v).commands = s.commands := rfl

@[simp] theorem State.setMem_a (s : State) (v : Memory) : (s.setMem v).a = s.a := rfl
@[simp] theorem State.setMem_x (s : State) (v : Memory) : (s.setMem v).x = s.x := rfl
@[simp] theorem State.setMem_y (s : State) (v : Memory) : (s.setMem v).y = s.y := rfl
@[simp] theorem State.setMem_sp (s : State) (v : Memory) : (s.setMem v).sp = s.sp := rfl
@[simp] theorem State.setMem_pc (s : State) (v : Memory) : (s.setMem v).pc = s.pc := rfl
@[simp] theorem State.setMem_status (s : State) (v : Memory) : (s.setMem v).status = s.status := rfl
@[simp] theorem State.setMem_opcode (s : State) (v : Memory) : (s.setMem v).opcode = s.opcode := rfl
@[simp] theorem State.setMem_fetched (s : State) (v : Memory) : (s.setMem v).fetched = s.fetched := rfl
@[simp] theorem State.setMem_addrAbs (s : State) (v : Memory) : (s.setMem v).addrAbs = s.addrAbs := rfl
@[simp] theorem State.setMem_addrRel (s : State) (v : Memory) : (s.setMem v).addrRel = s.addrRel := rfl
@[simp] theorem State.setMem_cycles (s : State) (v : Memory) : (s.setMem v).cycles = s.cycles := rfl
@[simp] theorem State.setMem_mem (s : State) (v : Memory) : (s.setMem v).mem = v := rfl
@[simp] theorem State.setMem_commands (s : State) (v : Memory) : (s.setMem v).commands = s.commands := rfl

@[simp] theorem State.setCommands_a (s : State) (v : List Command) : (s.setCommands v).a = s.a := rfl
@[simp] theorem State.setCommands_x (s : State) (v : List Command) : (s.setCommands v).x = s.x := rfl
@[simp] theorem State.setCommands_y (s : State) (v : List Command) : (s.setCommands v).y = s.y := rfl
@[simp] theorem State.setCommands_sp (s : State) (v : List Command) : (s.setCommands v).sp = s.sp := rfl
@[simp] theorem State.setCommands_pc (s : State) (v : List Command) : (s.setCommands v).pc = s.pc := rfl
@[simp] theorem State.setCommands_status (s : State) (v : List Command) : (s.setCommands v).status = s.status := rfl
@[simp] theorem State.setCommands_opcode (s : State) (v : List Command) : (s.setCommands v).opcode = s.opcode := rfl
@[simp] theorem State.setCommands_fetched (s : State) (v : List Command) : (s.setCommands v).fetched = s.fetched := rfl
@[simp] theorem State.setCommands_addrAbs (s : State) (v : List Command) : (s.setCommands v).addrAbs = s.addrAbs := rfl
@[simp] theorem State.setCommands_addrRel (s : State) (v : List Command) : (s.setCommands v).addrRel = s.addrRel := rfl
@[simp] theorem State.setCommands_cycles (s : State) (v : List Command) : (s.setCommands v).cycles = s.cycles := rfl
@[simp] theorem State.setCommands_mem (s : State) (v : List Command) : (s.setCommands v).mem = s.mem := rfl
@[simp] theorem State.setCommands_commands (s : State) (v : List Command) : (s.setCommands v).commands = v := rfl

@[simp] theorem State.setA_read (s : State) (v : Byte) (addr : Word) : (s.setA v).read addr = s.read addr := rfl
@[simp] theorem State.setA_read16 (s : State) (v : Byte) (addr : Word) : (s.setA v).read16 addr = s.read16 addr := rfl
@[simp] theorem State.setX_read (s : State) (v : Byte) (addr : Word) : (s.setX v).read addr = s.read addr := rfl
@[simp] theorem State.setX_read16 (s : State) (v : Byte) (addr : Word) : (s.setX v).read16 addr = s.read16 addr := rfl
@[simp] theorem State.setY_read (s : State) (v : Byte) (addr : Word) : (s.setY v).read addr = s.read addr := rfl
@[simp] theorem State.setY_read16 (s : State) (v : Byte) (addr : Word) : (s.setY v).read16 addr = s.read16 addr := rfl
@[simp] theorem State.setSp_read (s : State) (v : Byte) (addr : Word) : (s.setSp v).read addr = s.read addr := rfl
@[simp] theorem State.setSp_read16 (s : State) (v : Byte) (addr : Word) : (s.setSp v).read16 addr = s.read16 addr := rfl
@[simp] theorem State.setPc_read (s : State) (v : Word) (addr : Word) : (s.setPc v).read addr = s.read addr := rfl
@[simp] theorem State.setPc_read16 (s : State) (v : Word) (addr : Word) : (s.setPc v).read16 addr = s.read16 addr := rfl
@[simp] theorem State.setStatus_read (s : State) (v : Byte) (addr : Word) : (s.setStatus v).read addr = s.read addr := rfl
@[simp] theorem State.setStatus_read16 (s : State) (v : Byte) (addr : Word) : (s.setStatus v).read16 addr = s.read16 addr := rfl
@[simp] theorem State.setOpcode_read (s : State) (v : Byte) (addr : Word) : (s.setOpcode v).read addr = s.read addr := rfl
@[simp] theorem State.setOpcode_read16 (s : State) (v : Byte) (addr : Word) : (s.setOpcode v).read16 addr = s.read16 addr := rfl
@[simp] theorem State.setFetched_read (s : State) (v : Byte) (addr : Word) : (s.setFetched v).read addr = s.read addr := rfl
@[simp] theorem State.setFetched_read16 (s : State) (v : Byte) (addr : Word) : (s.setFetched v).read16 addr = s.read16 addr := rfl
@[simp] theorem State.setAddrAbs_read (s : State) (v : Word) (addr : Word) : (s.setAddrAbs v).read addr = s.read addr := rfl
@[simp] theorem State.setAddrAbs_read16 (s : State) (v : Word) (addr : Word) : (s.setAddrAbs v).read16 addr = s.read16 addr := rfl
@[simp] theorem State.setAddrRel_read (s : State) (v : Word) (addr : Word) : (s.setAddrRel v).read addr = s.read addr := rfl
@[simp] theorem State.setAddrRel_read16 (s : State) (v : Word) (addr : Word) : (s.setAddrRel v).read16 addr = s.read16 addr := rfl
@[simp] theorem State.setCycles_read (s : State) (v : Byte) (addr : Word) : (s.setCycles v).read addr = s.read addr := rfl
@[simp] theorem State.setCycles_read16 (s : State) (v : Byte) (addr : Word) : (s.setCycles v).read16 addr = s.read16 addr := rfl
@[simp] theorem State.setCommands_read (s : State) (v : List Command) (addr : Word) : (s.setCommands v).read addr = s.read addr := rfl
@[simp] theorem State.setCommands_read16 (s : State) (v : List Command) (addr : Word) : (s.setCommands v).read16 addr = s.read16 addr := rfl
@[simp] theorem State.write_a (s : State) (addr : Word) (v : Byte) : (s.write addr v).a = s.a := rfl
@[simp] theorem State.write_x (s : State) (addr : Word) (v : Byte) : (s.write addr v).x = s.x := rfl
@[simp] theorem State.write_y (s : State) (addr : Word) (v : Byte) : (s.write addr v).y = s.y := rfl
@[simp] theorem State.write_sp (s : State) (addr : Word) (v : Byte) : (s.write addr v).sp = s.sp := rfl
@[simp] theorem State.write_pc (s : State) (addr : Word) (v : Byte) : (s.write addr v).pc = s.pc := rfl
@[simp] theorem State.write_status (s : State) (addr : Word) (v : Byte) : (s.write addr v).status = s.status := rfl
@[simp] theorem State.write_opcode (s : State) (addr : Word) (v : Byte) : (s.write addr v).opcode = s.opcode := rfl
@[simp] theorem State.write_fetched (s : State) (addr : Word) (v : Byte) : (s.write addr v).fetched = s.fetched := rfl
@[simp] theorem State.write_addrAbs (s : State) (addr : Word) (v : Byte) : (s.write addr v).addrAbs = s.addrAbs := rfl
@[simp] theorem State.write_addrRel (s : State) (addr : Word) (v : Byte) : (s.write addr v).addrRel = s.addrRel := rfl
@[simp] theorem State.write_cycles (s : State) (addr : Word) (v : Byte) : (s.write addr v).cycles = s.cycles := rfl
@[simp] theorem State.write_mem (s : State) (addr : Word) (v : Byte) : (s.write addr v).mem = Memory.write s.mem addr v := rfl
@[simp] theorem State.write_commands (s : State) (addr : Word) (v : Byte) : (s.write addr v).commands = s.commands := rfl
@[simp] theorem State.push_a (s : State) (v : Byte) : (s.push v).a = s.a := rfl
@[simp] theorem State.push_x (s : State) (v : Byte) : (s.push v).x = s.x := rfl
@[simp] theorem State.push_y (s : State) (v : Byte) : (s.push v).y = s.y := rfl
@[simp] theorem State.push_sp (s : State) (v : Byte) : (s.push v).sp = s.sp - 1 := rfl
@[simp] theorem State.push_pc (s : State) (v : Byte) : (s.push v).pc = s.pc := rfl
@[simp] theorem State.push_status (s : State) (v : Byte) : (s.push v).status = s.status := rfl
@[simp] theorem State.push_opcode (s : State) (v : Byte) : (s.push v).opcode = s.opcode := rfl
@[simp] theorem State.push_fetched (s : State) (v : Byte) : (s.push v).fetched = s.fetched := rfl
@[simp] theorem State.push_addrAbs (s : State) (v : Byte) : (s.push v).addrAbs = s.addrAbs := rfl
@[simp] theorem State.push_addrRel (s : State) (v : Byte) : (s.push v).addrRel = s.addrRel := rfl
@[simp] theorem State.push_cycles (s : State) (v : Byte) : (s.push v).cycles = s.cycles := rfl
@[simp] theorem State.push_mem (s : State) (v : Byte) : (s.push v).mem = Memory.write s.mem (stackAddr s.sp) v := rfl
@[simp] theorem State.push_commands (s : State) (v : Byte) : (s.push v).commands = s.commands := rfl
@[simp] theorem State.pop_a (s : State) : s.pop.1.a = s.a := rfl
@[simp] theorem State.pop_x (s : State) : s.pop.1.x = s.x := rfl
@[simp] theorem State.pop_y (s : State) : s.pop.1.y = s.y := rfl
@[simp] theorem State.pop_sp (s : State) : s.pop.1.sp = s.sp + 1 := rfl
@[simp] theorem State.pop_pc (s : State) : s.pop.1.pc = s.pc := rfl
@[simp] theorem State.pop_status (s : State) : s.pop.1.status = s.status := rfl
@[simp] theorem State.pop_opcode (s : State) : s.pop.1.opcode = s.opcode := rfl
@[simp] theorem State.pop_fetched (s : State) : s.pop.1.fetched = s.fetched := rfl
@[simp] theorem State.pop_addrAbs (s : State) : s.pop.1.addrAbs = s.addrAbs := rfl
@[simp] theorem State.pop_addrRel (s : State) : s.pop.1.addrRel = s.addrRel := rfl
@[simp] theorem State.pop_cycles (s : State) : s.pop.1.cycles = s.cycles := rfl
@[simp] theorem State.pop_mem (s : State) : s.pop.1.mem = s.mem := rfl
@[simp] theorem State.pop_commands (s : State) : s.pop.1.commands = s.commands := rfl
@[simp] theorem State.pop_value (s : State) : s.pop.2 = s.read (stackAddr (s.sp + 1)) := rfl

end Sys2Proof.Machine
end

