-- ==== Sys2Proof/Laws/Exec.lean ====
section
/-! SUPPORT. What resolving, fetching an operand and a whole pulse do, each said once, and exec of every instruction as the
pulse of its entry in the opcode table. -/

namespace Sys2Proof.Machine

/-- The state an operation sees: the opcode is fetched, the counter loaded and the mode resolved (40_execution_engine R100
to R102). -/
def State.resolved (s : State) (opcode base : Byte) (m : Mode) : State :=
  { s with
    opcode := opcode
    pc := s.pc + 1 + operandAdvance m
    addrAbs := (s.setPc (s.pc + 1)).ea m
    addrRel := s.relAfter m
    fetched := s.fetchedAfter m
    cycles := base }

/-- The opcode fetch and Resolve give the resolved state and e1. -/
theorem beginInstr_resolve (s : State) (opcode base : Byte) (m : Mode) :
    (s.beginInstr opcode base).resolve m = (s.resolved opcode base m, s.crosses m) := by
  cases m <;>
    simp [State.beginInstr, State.resolve, State.resolved, State.crosses, State.relAfter, State.fetchedAfter,
      State.setOpcode, State.setPc, State.setCycles, State.setFetched, State.setAddrAbs, State.setAddrRel,
      operandAdvance, Mode.operandBytes, State.ea, State.readZP16, State.readIndirect, State.read]

/-- A pulse: the operation on the resolved state, then the counter plus the extra cycle minus one (R105, R106). -/
theorem pulse_eq (opcode base : Byte) (m : Mode) (op : Operation) (s : State) :
    pulse opcode base m op s =
      (op m (s.resolved opcode base m)).1.setCycles
        ((op m (s.resolved opcode base m)).1.cycles +
          (if (s.crosses m && (op m (s.resolved opcode base m)).2) = true then 1 else 0) - 1) := by
  simp only [pulse, beginInstr_resolve]
  split <;> simp [State.setCycles]

/-- FetchOperand on the resolved state: the operand of the state before the instruction, recorded in `fetched`
(41_addressing_modes R132). -/
theorem resolved_fetchOperand (s : State) (opcode base : Byte) (m : Mode) :
    (s.resolved opcode base m).fetchOperand m =
      ((s.resolved opcode base m).setFetched (s.operand m), s.operand m) := by
  cases m <;> rfl

/-- The effective address an operation sees is that of the state before the instruction, except in IMM, where it is the
address of the value. -/
theorem ea_setPc (s : State) (pc : Word) (m : Mode) (h : ∀ v, m ≠ .imm v) : (s.setPc pc).ea m = s.ea m := by
  cases m with
  | imm v => exact absurd rfl (h v)
  | _ => rfl

/-- The operation of each member of the operation set (40_execution_engine R103). -/
def operationOf : Op → Operation
  | .adc => opAdc | .and => opAnd | .asl => opAsl | .bcc => opBcc | .bcs => opBcs | .beq => opBeq
  | .bit => opBit | .bmi => opBmi | .bne => opBne | .bpl => opBpl | .brk => opBrk | .bvc => opBvc
  | .bvs => opBvs | .clc => opClc | .cld => opCld | .cli => opCli | .clv => opClv | .cmp => opCmp
  | .cpx => opCpx | .cpy => opCpy | .dec => opDec | .dex => opDex | .dey => opDey | .eor => opEor
  | .inc => opInc | .inx => opInx | .iny => opIny | .jmp => opJmp | .jsr => opJsr | .lda => opLda
  | .ldx => opLdx | .ldy => opLdy | .lsr => opLsr | .nop => opNop | .ora => opOra | .pha => opPha
  | .php => opPhp | .pla => opPla | .plp => opPlp | .rol => opRol | .ror => opRor | .rti => opRti
  | .rts => opRts | .sbc => opSbc | .sec => opSec | .sed => opSed | .sei => opSei | .sta => opSta
  | .stx => opStx | .sty => opSty | .tax => opTax | .tay => opTay | .tsx => opTsx | .txa => opTxa
  | .txs => opTxs | .tya => opTya
  | .illegal => opIllegal

/-- Exec of any instruction is the pulse of its entry: opcode, base cycles, mode and operation (R100). -/
theorem exec_eq_pulse (i : Instr) (s : State) :
    exec i s = .next (pulse i.entry.opcode i.entry.base i.entry.mode (operationOf i.entry.op) s) := by
  cases i <;> rfl

/-- The resolved state is what Sys2Proof/Safety.lean calls advanced, before the counter goes down. -/
theorem resolved_setCycles (s : State) (i : Instr) :
    (s.resolved i.entry.opcode i.entry.base i.entry.mode).setCycles (i.entry.base - 1) = s.advanced i := by
  have h : BitVec.ofNat 16 i.size = 1 + operandAdvance i.entry.mode := by
    rw [Instr.size, encode, List.length_cons, operandAdvance, Nat.add_comm]
    exact BitVec.ofNat_add ..
  simp [State.resolved, State.advanced, State.setCycles, h, BitVec.add_assoc]

end Sys2Proof.Machine
end

