-- ==== Sys2Proof/Laws/Memory.lean ====
section
/-! SUPPORT. Memory: read after write, the canonical form kept by every operation, and equal memories are equal lists. -/

namespace Sys2Proof.Machine

theorem Memory.lookup_erase (m : Memory) (n k : Nat) :
    Memory.lookup (Memory.erase m n) k = if k = n then Config.unlistedByte else Memory.lookup m k := by
  induction m with
  | nil => simp [Memory.erase, Memory.lookup]
  | cons c rest ih =>
    obtain ⟨j, v⟩ := c
    by_cases hj : j = n
    · subst hj; simp only [Memory.erase, if_true, ih, Memory.lookup]
      by_cases hk : k = j
      · simp [hk]
      · simp [hk, Ne.symm hk]
    · simp only [Memory.erase, hj, if_false, Memory.lookup, ih]
      by_cases hjk : j = k
      · subst hjk; simp [hj]
      · simp [hjk]

theorem Memory.lookup_insert (m : Memory) (n k : Nat) (b : Byte) (hn : Memory.lookup m n = Config.unlistedByte)
    (hb : ∀ v, (n, v) ∉ m) :
    Memory.lookup (Memory.insert m n b) k = if k = n then b else Memory.lookup m k := by
  induction m with
  | nil =>
    by_cases h : k = n
    · simp [Memory.insert, Memory.lookup, h]
    · simp [Memory.insert, Memory.lookup, h, Ne.symm h]
  | cons c rest ih =>
    obtain ⟨j, v⟩ := c
    have hj : j ≠ n := fun h => hb v (by simp [h])
    simp only [Memory.insert]
    split
    · by_cases h : k = n
      · simp [Memory.lookup, h]
      · simp [Memory.lookup, h, Ne.symm h]
    · simp only [Memory.lookup, hj, if_false] at hn ⊢
      rw [ih hn (fun w hw => hb w (by simp [hw]))]
      by_cases hk : j = k
      · subst hk; simp [hj]
      · simp [hk]

theorem Memory.not_mem_erase (m : Memory) (n : Nat) (v : Byte) : (n, v) ∉ Memory.erase m n := by
  induction m with
  | nil => simp [Memory.erase]
  | cons c rest ih =>
    obtain ⟨j, w⟩ := c
    by_cases h : j = n
    · simp [Memory.erase, h, ih]
    · simp [Memory.erase, h, ih, Ne.symm h]

/-- A read after a write: the byte written at its address, every other byte as before (20_memory R53). -/
theorem Memory.read_write (m : Memory) (addr other : Word) (b : Byte) :
    Memory.read (Memory.write m addr b) other = if other = addr then b else Memory.read m other := by
  have key : (other.toNat = addr.toNat) ↔ other = addr := BitVec.toNat_inj
  unfold Memory.write Memory.read
  split
  · next h => rw [Memory.lookup_erase]; simp [key, h]
  · rw [Memory.lookup_insert _ _ _ _ (by simp [Memory.lookup_erase]) (Memory.not_mem_erase m addr.toNat),
      Memory.lookup_erase]
    by_cases h : other = addr <;> simp [h, key]

theorem Memory.wfAbove_mono {m : Memory} {low low' : Nat} (h : Memory.wfAbove low m = true) (hl : low' ≤ low) :
    Memory.wfAbove low' m = true := by
  cases m with
  | nil => rfl
  | cons c rest => 
    simp only [Memory.wfAbove, Bool.and_eq_true, decide_eq_true_eq] at h ⊢
    exact ⟨⟨⟨by omega, h.1.1.2⟩, h.1.2⟩, h.2⟩

theorem Memory.wfAbove_erase {m : Memory} {low : Nat} (n : Nat) (h : Memory.wfAbove low m = true) :
    Memory.wfAbove low (Memory.erase m n) = true := by
  induction m generalizing low with
  | nil => rfl
  | cons c rest ih =>
    obtain ⟨j, v⟩ := c
    simp only [Memory.wfAbove, Bool.and_eq_true, decide_eq_true_eq] at h
    obtain ⟨⟨⟨h1, h2⟩, h3⟩, h4⟩ := h
    by_cases hj : j = n
    · simp only [Memory.erase, hj, if_true]
      exact Memory.wfAbove_mono (ih h4) (by omega)
    · simp only [Memory.erase, hj, if_false, Memory.wfAbove, Bool.and_eq_true, decide_eq_true_eq]
      exact ⟨⟨⟨h1, h2⟩, h3⟩, ih h4⟩

theorem Memory.wfAbove_insert {m : Memory} {low n : Nat} {b : Byte} (h : Memory.wfAbove low m = true)
    (hl : low ≤ n) (hn : n < 65536) (hb : b ≠ Config.unlistedByte) (hm : ∀ v, (n, v) ∉ m) :
    Memory.wfAbove low (Memory.insert m n b) = true := by
  induction m generalizing low with
  | nil => simp [Memory.insert, Memory.wfAbove, hl, hn, hb]
  | cons c rest ih =>
    obtain ⟨j, v⟩ := c
    have hj : j ≠ n := fun h => hm v (by simp [h])
    simp only [Memory.wfAbove, Bool.and_eq_true, decide_eq_true_eq] at h
    obtain ⟨⟨⟨h1, h2⟩, h3⟩, h4⟩ := h
    simp only [Memory.insert]
    split
    · next hlt =>
      simp only [Memory.wfAbove, Bool.and_eq_true, decide_eq_true_eq]
      exact ⟨⟨⟨hl, hn⟩, hb⟩, ⟨⟨by omega, h2⟩, h3⟩, h4⟩
    · simp only [Memory.wfAbove, Bool.and_eq_true, decide_eq_true_eq]
      exact ⟨⟨⟨h1, h2⟩, h3⟩, ih h4 (by omega) (fun w hw => hm w (by simp [hw]))⟩

/-- A write keeps the canonical form. -/
theorem Memory.wf_write {m : Memory} (addr : Word) (b : Byte) (h : Memory.wf m = true) :
    Memory.wf (Memory.write m addr b) = true := by
  unfold Memory.write
  split
  · exact Memory.wfAbove_erase _ h
  · next hb =>
    exact Memory.wfAbove_insert (Memory.wfAbove_erase _ h) (Nat.zero_le _) addr.isLt hb
      (Memory.not_mem_erase m addr.toNat)

theorem Memory.wf_foldl (cells : List Host.Cell) (m : Memory) (h : Memory.wf m = true) :
    Memory.wf (cells.foldl (fun m c => Memory.write m (BitVec.ofNat 16 c.1) c.2) m) = true := by
  induction cells generalizing m with
  | nil => exact h
  | cons c rest ih => exact ih _ (Memory.wf_write _ _ h)

/-- The bus contents `init` takes are in canonical form, whatever cells the host lists. -/
theorem Memory.wf_ofCells (cells : List Host.Cell) : Memory.wf (Memory.ofCells cells) = true :=
  Memory.wf_foldl cells [] rfl

theorem Memory.lookup_below {m : Memory} {low n : Nat} (h : Memory.wfAbove low m = true) (hn : n < low) :
    Memory.lookup m n = Config.unlistedByte := by
  induction m generalizing low with
  | nil => rfl
  | cons c rest ih =>
    obtain ⟨j, v⟩ := c
    simp only [Memory.wfAbove, Bool.and_eq_true, decide_eq_true_eq] at h
    obtain ⟨⟨⟨h1, h2⟩, h3⟩, h4⟩ := h
    simp only [Memory.lookup, show ¬ j = n by omega, if_false]
    exact ih h4 (by omega)

theorem Memory.eq_of_lookup {m m' : Memory} {low : Nat} (h : Memory.wfAbove low m = true)
    (h' : Memory.wfAbove low m' = true) (hl : ∀ n, low ≤ n → n < 65536 → Memory.lookup m n = Memory.lookup m' n) :
    m = m' := by
  induction m generalizing m' low with
  | nil =>
    cases m' with
    | nil => rfl
    | cons c rest =>
      obtain ⟨j, v⟩ := c
      simp only [Memory.wfAbove, Bool.and_eq_true, decide_eq_true_eq] at h'
      obtain ⟨⟨⟨h1, h2⟩, h3⟩, -⟩ := h'
      have := hl j h1 h2
      simp only [Memory.lookup, if_true] at this
      exact absurd this.symm h3
  | cons c rest ih =>
    obtain ⟨j, v⟩ := c
    simp only [Memory.wfAbove, Bool.and_eq_true, decide_eq_true_eq] at h
    obtain ⟨⟨⟨h1, h2⟩, h3⟩, h4⟩ := h
    cases m' with
    | nil =>
      have := hl j h1 h2
      simp only [Memory.lookup, if_true] at this
      exact absurd this h3
    | cons c' rest' =>
      obtain ⟨j', v'⟩ := c'
      have hw' := h'
      simp only [Memory.wfAbove, Bool.and_eq_true, decide_eq_true_eq] at h'
      obtain ⟨⟨⟨h1', h2'⟩, h3'⟩, h4'⟩ := h'
      have e1 := hl j h1 h2
      have e2 := hl j' h1' h2'
      simp only [Memory.lookup, if_true] at e1 e2
      have hjj : j = j' := by
        rcases Nat.lt_trichotomy j j' with hlt | heq | hgt
        · rw [if_neg (by omega), Memory.lookup_below h4' (by omega)] at e1
          exact absurd e1 h3
        · exact heq
        · rw [if_neg (by omega), Memory.lookup_below h4 (by omega)] at e2
          exact absurd e2.symm h3'
      subst hjj
      simp only [if_true] at e1
      subst e1
      congr 1
      refine ih h4 h4' fun n hn hn' => ?_
      have := hl n (by omega) hn'
      simpa only [Memory.lookup, show ¬ j = n by omega, if_false] using this

/-- In canonical form, memories that read alike are equal lists. -/
theorem Memory.eq_of_read {m m' : Memory} (h : Memory.wf m = true) (h' : Memory.wf m' = true)
    (hr : ∀ addr : Word, Memory.read m addr = Memory.read m' addr) : m = m' := by
  refine Memory.eq_of_lookup h h' fun n _ hn => ?_
  have := hr (BitVec.ofNat 16 n)
  simpa only [Memory.read, BitVec.toNat_ofNat, Nat.mod_eq_of_lt (show n < 2 ^ 16 from hn)] using this

end Sys2Proof.Machine
end

