-- ==== Sys2Proof/Laws/Operands.lean ====
section
/-! SUPPORT. What fetching an operand, writing a result back, a branch and the stack operations do to each field. -/

namespace Sys2Proof.Machine

@[simp] theorem State.fetchOperand_a (s : State) (m : Mode) : (s.fetchOperand m).1.a = s.a := by
  cases m <;> rfl
@[simp] theorem State.fetchOperand_x (s : State) (m : Mode) : (s.fetchOperand m).1.x = s.x := by
  cases m <;> rfl
@[simp] theorem State.fetchOperand_y (s : State) (m : Mode) : (s.fetchOperand m).1.y = s.y := by
  cases m <;> rfl
@[simp] theorem State.fetchOperand_sp (s : State) (m : Mode) : (s.fetchOperand m).1.sp = s.sp := by
  cases m <;> rfl
@[simp] theorem State.fetchOperand_pc (s : State) (m : Mode) : (s.fetchOperand m).1.pc = s.pc := by
  cases m <;> rfl
@[simp] theorem State.fetchOperand_status (s : State) (m : Mode) : (s.fetchOperand m).1.status = s.status := by
  cases m <;> rfl
@[simp] theorem State.fetchOperand_opcode (s : State) (m : Mode) : (s.fetchOperand m).1.opcode = s.opcode := by
  cases m <;> rfl
@[simp] theorem State.fetchOperand_addrAbs (s : State) (m : Mode) : (s.fetchOperand m).1.addrAbs = s.addrAbs := by
  cases m <;> rfl
@[simp] theorem State.fetchOperand_addrRel (s : State) (m : Mode) : (s.fetchOperand m).1.addrRel = s.addrRel := by
  cases m <;> rfl
@[simp] theorem State.fetchOperand_cycles (s : State) (m : Mode) : (s.fetchOperand m).1.cycles = s.cycles := by
  cases m <;> rfl
@[simp] theorem State.fetchOperand_mem (s : State) (m : Mode) : (s.fetchOperand m).1.mem = s.mem := by
  cases m <;> rfl
@[simp] theorem State.fetchOperand_commands (s : State) (m : Mode) : (s.fetchOperand m).1.commands = s.commands := by
  cases m <;> rfl

@[simp] theorem State.writeBack_x (s : State) (m : Mode) (r : Byte) : (s.writeBack m r).x = s.x := by
  cases m <;> rfl
@[simp] theorem State.writeBack_y (s : State) (m : Mode) (r : Byte) : (s.writeBack m r).y = s.y := by
  cases m <;> rfl
@[simp] theorem State.writeBack_sp (s : State) (m : Mode) (r : Byte) : (s.writeBack m r).sp = s.sp := by
  cases m <;> rfl
@[simp] theorem State.writeBack_pc (s : State) (m : Mode) (r : Byte) : (s.writeBack m r).pc = s.pc := by
  cases m <;> rfl
@[simp] theorem State.writeBack_status (s : State) (m : Mode) (r : Byte) : (s.writeBack m r).status = s.status := by
  cases m <;> rfl
@[simp] theorem State.writeBack_opcode (s : State) (m : Mode) (r : Byte) : (s.writeBack m r).opcode = s.opcode := by
  cases m <;> rfl
@[simp] theorem State.writeBack_fetched (s : State) (m : Mode) (r : Byte) : (s.writeBack m r).fetched = s.fetched := by
  cases m <;> rfl
@[simp] theorem State.writeBack_addrAbs (s : State) (m : Mode) (r : Byte) : (s.writeBack m r).addrAbs = s.addrAbs := by
  cases m <;> rfl
@[simp] theorem State.writeBack_addrRel (s : State) (m : Mode) (r : Byte) : (s.writeBack m r).addrRel = s.addrRel := by
  cases m <;> rfl
@[simp] theorem State.writeBack_cycles (s : State) (m : Mode) (r : Byte) : (s.writeBack m r).cycles = s.cycles := by
  cases m <;> rfl
@[simp] theorem State.writeBack_commands (s : State) (m : Mode) (r : Byte) : (s.writeBack m r).commands = s.commands := by
  cases m <;> rfl

/-- A shift's write back to A, in the accumulator form only (44_shift_rotate). -/
theorem State.writeBack_a (s : State) (m : Mode) (r : Byte) :
    (s.writeBack m r).a = if m = .acc then r else s.a := by
  cases m <;> rfl

/-- A shift's write back to memory, in every other form (44_shift_rotate). -/
theorem State.writeBack_mem (s : State) (m : Mode) (r : Byte) :
    (s.writeBack m r).mem = if m = .acc then s.mem else Memory.write s.mem s.addrAbs r := by
  cases m <;> rfl

@[simp] theorem branch_a (c : Bool) (s : State) : (branch c s).1.a = s.a := by
  cases c <;> (simp only [branch]; repeat' split) <;> rfl
@[simp] theorem branch_x (c : Bool) (s : State) : (branch c s).1.x = s.x := by
  cases c <;> (simp only [branch]; repeat' split) <;> rfl
@[simp] theorem branch_y (c : Bool) (s : State) : (branch c s).1.y = s.y := by
  cases c <;> (simp only [branch]; repeat' split) <;> rfl
@[simp] theorem branch_sp (c : Bool) (s : State) : (branch c s).1.sp = s.sp := by
  cases c <;> (simp only [branch]; repeat' split) <;> rfl
@[simp] theorem branch_status (c : Bool) (s : State) : (branch c s).1.status = s.status := by
  cases c <;> (simp only [branch]; repeat' split) <;> rfl
@[simp] theorem branch_opcode (c : Bool) (s : State) : (branch c s).1.opcode = s.opcode := by
  cases c <;> (simp only [branch]; repeat' split) <;> rfl
@[simp] theorem branch_fetched (c : Bool) (s : State) : (branch c s).1.fetched = s.fetched := by
  cases c <;> (simp only [branch]; repeat' split) <;> rfl
@[simp] theorem branch_addrAbs (c : Bool) (s : State) : (branch c s).1.addrAbs = s.addrAbs := by
  cases c <;> (simp only [branch]; repeat' split) <;> rfl
@[simp] theorem branch_addrRel (c : Bool) (s : State) : (branch c s).1.addrRel = s.addrRel := by
  cases c <;> (simp only [branch]; repeat' split) <;> rfl
@[simp] theorem branch_mem (c : Bool) (s : State) : (branch c s).1.mem = s.mem := by
  cases c <;> (simp only [branch]; repeat' split) <;> rfl
@[simp] theorem branch_commands (c : Bool) (s : State) : (branch c s).1.commands = s.commands := by
  cases c <;> (simp only [branch]; repeat' split) <;> rfl

/-- A branch adds no cycle when it is not taken, one when taken, two when its target lies on another page
(47_control_transfer R220). -/
theorem branch_cycles (c : Bool) (s : State) :
    (branch c s).1.cycles =
      s.cycles + (if c then (if hiByte (s.pc + s.addrRel) = hiByte s.pc then 1 else 2) else 0) := by
  cases c
  · simp [branch]
  · by_cases h : hiByte (s.pc + s.addrRel) = hiByte s.pc
    · simp [branch, h]
    · simp only [branch, if_true, bne_iff_ne, ne_eq, h, not_false_eq_true, if_false, State.setPc_cycles,
        State.setCycles_cycles]
      bv_omega

/-- Where a branch leads (R220). -/
theorem branch_pc (c : Bool) (s : State) : (branch c s).1.pc = if c then s.pc + s.addrRel else s.pc := by
  cases c <;> simp [branch]

end Sys2Proof.Machine
end

