-- ==== Sys2Proof/Laws/Ops.lean ====
section
/-! SUPPORT. What each shared operation over the stack, the exceptions and the host commands does, said once: the whole
state it leaves, as a record over the state before it. -/

namespace Sys2Proof.Machine

/-- A stack address as a number: page 1 (10_state R23). -/
theorem stackAddr_toNat (p : Byte) : (stackAddr p).toNat = 256 + p.toNat := by
  have := p.isLt
  simp [stackAddr, zext16, BitVec.toNat_add]
  omega

theorem stackAddr_inj {p q : Byte} : stackAddr p = stackAddr q ↔ p = q := by
  rw [← BitVec.toNat_inj, stackAddr_toNat, stackAddr_toNat, ← BitVec.toNat_inj]
  omega

/-- An address at 0x0200 or above is no stack address. -/
theorem ne_stackAddr {w : Word} (h : 0x0200 ≤ w.toNat) (p : Byte) : w ≠ stackAddr p := by
  intro e
  have := p.isLt
  rw [e, stackAddr_toNat] at h
  omega

theorem State.push_eq (s : State) (v : Byte) :
    s.push v = { s with mem := Memory.write s.mem (stackAddr s.sp) v, sp := s.sp - 1 } := rfl

theorem State.pop_eq (s : State) : s.pop = ({ s with sp := s.sp + 1 }, s.read (stackAddr (s.sp + 1))) := rfl

theorem byte_add_one_add_one (b : Byte) : b + 1 + 1 = b + 2 := by bv_omega

theorem byte_add_two_add_one (b : Byte) : b + 2 + 1 = b + 3 := by bv_omega

theorem byte_sub_one_sub_one (b : Byte) : b - 1 - 1 = b - 2 := by bv_omega

theorem byte_sub_two_sub_one (b : Byte) : b - 2 - 1 = b - 3 := by bv_omega

/-- Pushing a word: the high byte at the higher address (20_memory R54). -/
theorem State.pushWord_eq (s : State) (w : Word) :
    s.pushWord w = { s with
      mem := Memory.write (Memory.write s.mem (stackAddr s.sp) (hiByte w)) (stackAddr (s.sp - 1)) (loByte w)
      sp := s.sp - 2 } := by
  simp only [State.pushWord, State.push_eq, byte_sub_one_sub_one]

/-- Pulling a word: the low byte from the lower address (47_control_transfer R231). -/
theorem State.popWord_eq (s : State) :
    s.popWord = ({ s with sp := s.sp + 2 }, wordOf (s.read (stackAddr (s.sp + 2))) (s.read (stackAddr (s.sp + 1)))) := by
  simp only [State.popWord, State.pop_eq, byte_add_one_add_one]
  rfl

/-- The memory an exception leaves: PC high, PC low and the pushed STATUS at SP and below (60_exceptions R313). -/
def exceptionFrame (s : State) (pushed : Byte) : Memory :=
  Memory.write (Memory.write (Memory.write s.mem (stackAddr s.sp) (hiByte s.pc)) (stackAddr (s.sp - 1)) (loByte s.pc))
    (stackAddr (s.sp - 2)) pushed

/-- An exception's pushes change no byte at 0x0200 or above. -/
theorem read_exceptionFrame (s : State) (pushed : Byte) {w : Word} (h : 0x0200 ≤ w.toNat) :
    Memory.read (exceptionFrame s pushed) w = s.read w := by
  simp only [exceptionFrame, Memory.read_write, ne_stackAddr h, if_false]
  rfl

/-- The byte at the address of the pushed STATUS, and the two of the pushed PC above it. -/
theorem read_exceptionFrame_stack (s : State) (pushed : Byte) :
    Memory.read (exceptionFrame s pushed) (stackAddr (s.sp - 2)) = pushed ∧
    Memory.read (exceptionFrame s pushed) (stackAddr (s.sp - 1)) = loByte s.pc ∧
    Memory.read (exceptionFrame s pushed) (stackAddr s.sp) = hiByte s.pc := by
  have h1 : s.sp - 1 ≠ s.sp - 2 := by bv_omega
  have h2 : s.sp ≠ s.sp - 2 := by bv_omega
  have h3 : s.sp ≠ s.sp - 1 := by bv_omega
  simp only [exceptionFrame, Memory.read_write, stackAddr_inj, h1, h2, h3, if_true, if_false, and_self]

/-- Taking an exception through a vector outside the stack page: the vector is read as it stood before the pushes
(48_system R240, 60_exceptions R311). -/
theorem State.takeException_eq (s : State) (pushed live : Byte) (vector : Word)
    (h : 0x0200 ≤ vector.toNat) (h1 : 0x0200 ≤ (vector + 1).toNat) :
    s.takeException pushed live vector = { s with
      mem := exceptionFrame s pushed, sp := s.sp - 3, status := live, pc := s.read16 vector } := by
  have r := read_exceptionFrame s pushed h
  have r1 := read_exceptionFrame s pushed h1
  simp only [State.takeException, State.pushWord_eq, State.push_eq, State.setStatus, State.setPc, byte_sub_two_sub_one,
    State.read16, State.read] at r r1 ⊢
  simp only [← exceptionFrame.eq_1, r, r1]

/-- BRK's entry (48_system R240). -/
theorem State.brkEntry_eq (s : State) :
    s.brkEntry = { s with
      mem := exceptionFrame s (s.status ||| 0x30), sp := s.sp - 3, status := s.status ||| 0x04
      pc := s.read16 0xFFFE } :=
  State.takeException_eq _ _ _ _ (by decide) (by decide)

/-- `InterruptEntry(vec)` for a vector outside the stack page (60_exceptions R311). -/
theorem State.interruptEntry_eq (s : State) (vector : Word) (h : 0x0200 ≤ vector.toNat)
    (h1 : 0x0200 ≤ (vector + 1).toNat) :
    s.interruptEntry vector = { s with
      mem := exceptionFrame s ((s.status &&& 0xEF) ||| 0x24), sp := s.sp - 3, status := (s.status &&& 0xEF) ||| 0x24
      pc := s.read16 vector } := by
  rw [State.interruptEntry, State.takeException_eq _ _ _ _ h h1, interruptStatus_eq]

/-- The two values NMI_VECTOR may have (00_scope R7). -/
theorem nmiVector_cases : nmiVector = 0xFFFA ∨ nmiVector = 0xFFFE := by
  unfold nmiVector
  split
  · exact .inl rfl
  · exact .inr rfl

/-- The two values PHP_PUSH_OR may have (00_scope R7). -/
theorem phpPushOr_cases : phpPushOr = 0x30 ∨ phpPushOr = 0x00 := by
  unfold phpPushOr
  split
  · exact .inl rfl
  · exact .inr rfl

/-- NMI_VECTOR and the byte after it lie outside the stack page. -/
theorem nmiVector_high : 0x0200 ≤ nmiVector.toNat ∧ 0x0200 ≤ (nmiVector + 1).toNat := by
  rcases nmiVector_cases with h | h <;> rw [h] <;> decide

/-- Return from an exception: STATUS from the stack with B and U clear, then PC (48_system R241). -/
theorem State.returnFromException_eq (s : State) :
    s.returnFromException = { s with
      sp := s.sp + 3, status := s.read (stackAddr (s.sp + 1)) &&& 0xCF
      pc := wordOf (s.read (stackAddr (s.sp + 3))) (s.read (stackAddr (s.sp + 2))) } := by
  have h : s.sp + 1 + 2 = s.sp + 3 := by bv_omega
  simp only [State.returnFromException, State.pop_eq, State.popWord_eq, State.setStatus, State.setPc, State.read,
    byte_add_one_add_one, h]

/-- What `irq()` does, either way (60_exceptions R310). -/
theorem State.irq_cases (s : State) :
    (getFlag s.status .i = true ∧ s.irq = s) ∨
    (getFlag s.status .i = false ∧ s.irq = { s with
      mem := exceptionFrame s ((s.status &&& 0xEF) ||| 0x24), sp := s.sp - 3, status := (s.status &&& 0xEF) ||| 0x24
      pc := s.read16 0xFFFE, cycles := 7 }) := by
  unfold State.irq
  split
  · next h => exact .inl ⟨h, rfl⟩
  · next h =>
    refine .inr ⟨by simpa using h, ?_⟩
    rw [State.interruptEntry_eq _ _ (by decide) (by decide)]
    rfl

/-- What `nmi()` does (60_exceptions R312). -/
theorem State.nmi_eq (s : State) :
    s.nmi = { s with
      mem := exceptionFrame s ((s.status &&& 0xEF) ||| 0x24), sp := s.sp - 3, status := (s.status &&& 0xEF) ||| 0x24
      pc := s.read16 nmiVector, cycles := 8 } := by
  rw [State.nmi, State.interruptEntry_eq _ _ nmiVector_high.1 nmiVector_high.2]
  rfl

/-- Every memory an exception leaves is in canonical form when the one before was. -/
theorem wf_exceptionFrame (s : State) (pushed : Byte) (h : Memory.wf s.mem = true) :
    Memory.wf (exceptionFrame s pushed) = true :=
  Memory.wf_write _ _ (Memory.wf_write _ _ (Memory.wf_write _ _ h))

/-- ILLEGAL_BASE_CYCLES lies in 1 to 8 for every value (00_scope R7). -/
theorem illegalBaseCycles_range (op : Byte) :
    1 ≤ (illegalBaseCycles op).toNat ∧ (illegalBaseCycles op).toNat ≤ 8 := by
  have := (Config.illegalExtraCycles op).isLt
  simp [illegalBaseCycles, BitVec.toNat_add]
  omega

/-- The memory right after reset is in canonical form: it lists nothing. -/
theorem wf_reset : Memory.wf State.reset.mem = true := rfl

end Sys2Proof.Machine
end

