-- ==== Sys2Proof/Laws/PerInstr.lean ====
section
/-! SUPPORT. Facts about every instruction as syntax, one lemma per constructor. -/

namespace Sys2Proof.Laws

/-- An instruction is well formed exactly when its opcode byte is an illegal value just in case its operation is the illegal
one (30_encoding R73, R76). -/
def OpcodeClass.Statement (i : Instr) : Prop :=
  i.wellFormed = (illegalOpcodes.contains i.entry.opcode == (i.entry.op == .illegal))

theorem OpcodeClass.adcImm (v : Byte) : OpcodeClass.Statement (.adcImm v) := rfl
theorem OpcodeClass.adcZp (b : Byte) : OpcodeClass.Statement (.adcZp b) := rfl
theorem OpcodeClass.adcZpx (b : Byte) : OpcodeClass.Statement (.adcZpx b) := rfl
theorem OpcodeClass.adcAbs (w : Word) : OpcodeClass.Statement (.adcAbs w) := rfl
theorem OpcodeClass.adcAbx (w : Word) : OpcodeClass.Statement (.adcAbx w) := rfl
theorem OpcodeClass.adcAby (w : Word) : OpcodeClass.Statement (.adcAby w) := rfl
theorem OpcodeClass.adcIzx (b : Byte) : OpcodeClass.Statement (.adcIzx b) := rfl
theorem OpcodeClass.adcIzy (b : Byte) : OpcodeClass.Statement (.adcIzy b) := rfl
theorem OpcodeClass.andImm (v : Byte) : OpcodeClass.Statement (.andImm v) := rfl
theorem OpcodeClass.andZp (b : Byte) : OpcodeClass.Statement (.andZp b) := rfl
theorem OpcodeClass.andZpx (b : Byte) : OpcodeClass.Statement (.andZpx b) := rfl
theorem OpcodeClass.andAbs (w : Word) : OpcodeClass.Statement (.andAbs w) := rfl
theorem OpcodeClass.andAbx (w : Word) : OpcodeClass.Statement (.andAbx w) := rfl
theorem OpcodeClass.andAby (w : Word) : OpcodeClass.Statement (.andAby w) := rfl
theorem OpcodeClass.andIzx (b : Byte) : OpcodeClass.Statement (.andIzx b) := rfl
theorem OpcodeClass.andIzy (b : Byte) : OpcodeClass.Statement (.andIzy b) := rfl
theorem OpcodeClass.aslAcc : OpcodeClass.Statement .aslAcc := rfl
theorem OpcodeClass.aslZp (b : Byte) : OpcodeClass.Statement (.aslZp b) := rfl
theorem OpcodeClass.aslZpx (b : Byte) : OpcodeClass.Statement (.aslZpx b) := rfl
theorem OpcodeClass.aslAbs (w : Word) : OpcodeClass.Statement (.aslAbs w) := rfl
theorem OpcodeClass.aslAbx (w : Word) : OpcodeClass.Statement (.aslAbx w) := rfl
theorem OpcodeClass.bcc (o : Byte) : OpcodeClass.Statement (.bcc o) := rfl
theorem OpcodeClass.bcs (o : Byte) : OpcodeClass.Statement (.bcs o) := rfl
theorem OpcodeClass.beq (o : Byte) : OpcodeClass.Statement (.beq o) := rfl
theorem OpcodeClass.bitZp (b : Byte) : OpcodeClass.Statement (.bitZp b) := rfl
theorem OpcodeClass.bitAbs (w : Word) : OpcodeClass.Statement (.bitAbs w) := rfl
theorem OpcodeClass.bmi (o : Byte) : OpcodeClass.Statement (.bmi o) := rfl
theorem OpcodeClass.bne (o : Byte) : OpcodeClass.Statement (.bne o) := rfl
theorem OpcodeClass.bpl (o : Byte) : OpcodeClass.Statement (.bpl o) := rfl
theorem OpcodeClass.brk : OpcodeClass.Statement .brk := rfl
theorem OpcodeClass.bvc (o : Byte) : OpcodeClass.Statement (.bvc o) := rfl
theorem OpcodeClass.bvs (o : Byte) : OpcodeClass.Statement (.bvs o) := rfl
theorem OpcodeClass.clc : OpcodeClass.Statement .clc := rfl
theorem OpcodeClass.cld : OpcodeClass.Statement .cld := rfl
theorem OpcodeClass.cli : OpcodeClass.Statement .cli := rfl
theorem OpcodeClass.clv : OpcodeClass.Statement .clv := rfl
theorem OpcodeClass.cmpImm (v : Byte) : OpcodeClass.Statement (.cmpImm v) := rfl
theorem OpcodeClass.cmpZp (b : Byte) : OpcodeClass.Statement (.cmpZp b) := rfl
theorem OpcodeClass.cmpZpx (b : Byte) : OpcodeClass.Statement (.cmpZpx b) := rfl
theorem OpcodeClass.cmpAbs (w : Word) : OpcodeClass.Statement (.cmpAbs w) := rfl
theorem OpcodeClass.cmpAbx (w : Word) : OpcodeClass.Statement (.cmpAbx w) := rfl
theorem OpcodeClass.cmpAby (w : Word) : OpcodeClass.Statement (.cmpAby w) := rfl
theorem OpcodeClass.cmpIzx (b : Byte) : OpcodeClass.Statement (.cmpIzx b) := rfl
theorem OpcodeClass.cmpIzy (b : Byte) : OpcodeClass.Statement (.cmpIzy b) := rfl
theorem OpcodeClass.cpxImm (v : Byte) : OpcodeClass.Statement (.cpxImm v) := rfl
theorem OpcodeClass.cpxZp (b : Byte) : OpcodeClass.Statement (.cpxZp b) := rfl
theorem OpcodeClass.cpxAbs (w : Word) : OpcodeClass.Statement (.cpxAbs w) := rfl
theorem OpcodeClass.cpyImm (v : Byte) : OpcodeClass.Statement (.cpyImm v) := rfl
theorem OpcodeClass.cpyZp (b : Byte) : OpcodeClass.Statement (.cpyZp b) := rfl
theorem OpcodeClass.cpyAbs (w : Word) : OpcodeClass.Statement (.cpyAbs w) := rfl
theorem OpcodeClass.decZp (b : Byte) : OpcodeClass.Statement (.decZp b) := rfl
theorem OpcodeClass.decZpx (b : Byte) : OpcodeClass.Statement (.decZpx b) := rfl
theorem OpcodeClass.decAbs (w : Word) : OpcodeClass.Statement (.decAbs w) := rfl
theorem OpcodeClass.decAbx (w : Word) : OpcodeClass.Statement (.decAbx w) := rfl
theorem OpcodeClass.dex : OpcodeClass.Statement .dex := rfl
theorem OpcodeClass.dey : OpcodeClass.Statement .dey := rfl
theorem OpcodeClass.eorImm (v : Byte) : OpcodeClass.Statement (.eorImm v) := rfl
theorem OpcodeClass.eorZp (b : Byte) : OpcodeClass.Statement (.eorZp b) := rfl
theorem OpcodeClass.eorZpx (b : Byte) : OpcodeClass.Statement (.eorZpx b) := rfl
theorem OpcodeClass.eorAbs (w : Word) : OpcodeClass.Statement (.eorAbs w) := rfl
theorem OpcodeClass.eorAbx (w : Word) : OpcodeClass.Statement (.eorAbx w) := rfl
theorem OpcodeClass.eorAby (w : Word) : OpcodeClass.Statement (.eorAby w) := rfl
theorem OpcodeClass.eorIzx (b : Byte) : OpcodeClass.Statement (.eorIzx b) := rfl
theorem OpcodeClass.eorIzy (b : Byte) : OpcodeClass.Statement (.eorIzy b) := rfl
theorem OpcodeClass.incZp (b : Byte) : OpcodeClass.Statement (.incZp b) := rfl
theorem OpcodeClass.incZpx (b : Byte) : OpcodeClass.Statement (.incZpx b) := rfl
theorem OpcodeClass.incAbs (w : Word) : OpcodeClass.Statement (.incAbs w) := rfl
theorem OpcodeClass.incAbx (w : Word) : OpcodeClass.Statement (.incAbx w) := rfl
theorem OpcodeClass.inx : OpcodeClass.Statement .inx := rfl
theorem OpcodeClass.iny : OpcodeClass.Statement .iny := rfl
theorem OpcodeClass.jmpAbs (w : Word) : OpcodeClass.Statement (.jmpAbs w) := rfl
theorem OpcodeClass.jmpInd (w : Word) : OpcodeClass.Statement (.jmpInd w) := rfl
theorem OpcodeClass.jsr (w : Word) : OpcodeClass.Statement (.jsr w) := rfl
theorem OpcodeClass.ldaImm (v : Byte) : OpcodeClass.Statement (.ldaImm v) := rfl
theorem OpcodeClass.ldaZp (b : Byte) : OpcodeClass.Statement (.ldaZp b) := rfl
theorem OpcodeClass.ldaZpx (b : Byte) : OpcodeClass.Statement (.ldaZpx b) := rfl
theorem OpcodeClass.ldaAbs (w : Word) : OpcodeClass.Statement (.ldaAbs w) := rfl
theorem OpcodeClass.ldaAbx (w : Word) : OpcodeClass.Statement (.ldaAbx w) := rfl
theorem OpcodeClass.ldaAby (w : Word) : OpcodeClass.Statement (.ldaAby w) := rfl
theorem OpcodeClass.ldaIzx (b : Byte) : OpcodeClass.Statement (.ldaIzx b) := rfl
theorem OpcodeClass.ldaIzy (b : Byte) : OpcodeClass.Statement (.ldaIzy b) := rfl
theorem OpcodeClass.ldxImm (v : Byte) : OpcodeClass.Statement (.ldxImm v) := rfl
theorem OpcodeClass.ldxZp (b : Byte) : OpcodeClass.Statement (.ldxZp b) := rfl
theorem OpcodeClass.ldxZpy (b : Byte) : OpcodeClass.Statement (.ldxZpy b) := rfl
theorem OpcodeClass.ldxAbs (w : Word) : OpcodeClass.Statement (.ldxAbs w) := rfl
theorem OpcodeClass.ldxAby (w : Word) : OpcodeClass.Statement (.ldxAby w) := rfl
theorem OpcodeClass.ldyImm (v : Byte) : OpcodeClass.Statement (.ldyImm v) := rfl
theorem OpcodeClass.ldyZp (b : Byte) : OpcodeClass.Statement (.ldyZp b) := rfl
theorem OpcodeClass.ldyZpx (b : Byte) : OpcodeClass.Statement (.ldyZpx b) := rfl
theorem OpcodeClass.ldyAbs (w : Word) : OpcodeClass.Statement (.ldyAbs w) := rfl
theorem OpcodeClass.ldyAbx (w : Word) : OpcodeClass.Statement (.ldyAbx w) := rfl
theorem OpcodeClass.lsrAcc : OpcodeClass.Statement .lsrAcc := rfl
theorem OpcodeClass.lsrZp (b : Byte) : OpcodeClass.Statement (.lsrZp b) := rfl
theorem OpcodeClass.lsrZpx (b : Byte) : OpcodeClass.Statement (.lsrZpx b) := rfl
theorem OpcodeClass.lsrAbs (w : Word) : OpcodeClass.Statement (.lsrAbs w) := rfl
theorem OpcodeClass.lsrAbx (w : Word) : OpcodeClass.Statement (.lsrAbx w) := rfl
theorem OpcodeClass.nop : OpcodeClass.Statement .nop := rfl
theorem OpcodeClass.oraImm (v : Byte) : OpcodeClass.Statement (.oraImm v) := rfl
theorem OpcodeClass.oraZp (b : Byte) : OpcodeClass.Statement (.oraZp b) := rfl
theorem OpcodeClass.oraZpx (b : Byte) : OpcodeClass.Statement (.oraZpx b) := rfl
theorem OpcodeClass.oraAbs (w : Word) : OpcodeClass.Statement (.oraAbs w) := rfl
theorem OpcodeClass.oraAbx (w : Word) : OpcodeClass.Statement (.oraAbx w) := rfl
theorem OpcodeClass.oraAby (w : Word) : OpcodeClass.Statement (.oraAby w) := rfl
theorem OpcodeClass.oraIzx (b : Byte) : OpcodeClass.Statement (.oraIzx b) := rfl
theorem OpcodeClass.oraIzy (b : Byte) : OpcodeClass.Statement (.oraIzy b) := rfl
theorem OpcodeClass.pha : OpcodeClass.Statement .pha := rfl
theorem OpcodeClass.php : OpcodeClass.Statement .php := rfl
theorem OpcodeClass.pla : OpcodeClass.Statement .pla := rfl
theorem OpcodeClass.plp : OpcodeClass.Statement .plp := rfl
theorem OpcodeClass.rolAcc : OpcodeClass.Statement .rolAcc := rfl
theorem OpcodeClass.rolZp (b : Byte) : OpcodeClass.Statement (.rolZp b) := rfl
theorem OpcodeClass.rolZpx (b : Byte) : OpcodeClass.Statement (.rolZpx b) := rfl
theorem OpcodeClass.rolAbs (w : Word) : OpcodeClass.Statement (.rolAbs w) := rfl
theorem OpcodeClass.rolAbx (w : Word) : OpcodeClass.Statement (.rolAbx w) := rfl
theorem OpcodeClass.rorAcc : OpcodeClass.Statement .rorAcc := rfl
theorem OpcodeClass.rorZp (b : Byte) : OpcodeClass.Statement (.rorZp b) := rfl
theorem OpcodeClass.rorZpx (b : Byte) : OpcodeClass.Statement (.rorZpx b) := rfl
theorem OpcodeClass.rorAbs (w : Word) : OpcodeClass.Statement (.rorAbs w) := rfl
theorem OpcodeClass.rorAbx (w : Word) : OpcodeClass.Statement (.rorAbx w) := rfl
theorem OpcodeClass.rti : OpcodeClass.Statement .rti := rfl
theorem OpcodeClass.rts : OpcodeClass.Statement .rts := rfl
theorem OpcodeClass.sbcImm (v : Byte) : OpcodeClass.Statement (.sbcImm v) := rfl
theorem OpcodeClass.sbcZp (b : Byte) : OpcodeClass.Statement (.sbcZp b) := rfl
theorem OpcodeClass.sbcZpx (b : Byte) : OpcodeClass.Statement (.sbcZpx b) := rfl
theorem OpcodeClass.sbcAbs (w : Word) : OpcodeClass.Statement (.sbcAbs w) := rfl
theorem OpcodeClass.sbcAbx (w : Word) : OpcodeClass.Statement (.sbcAbx w) := rfl
theorem OpcodeClass.sbcAby (w : Word) : OpcodeClass.Statement (.sbcAby w) := rfl
theorem OpcodeClass.sbcIzx (b : Byte) : OpcodeClass.Statement (.sbcIzx b) := rfl
theorem OpcodeClass.sbcIzy (b : Byte) : OpcodeClass.Statement (.sbcIzy b) := rfl
theorem OpcodeClass.sec : OpcodeClass.Statement .sec := rfl
theorem OpcodeClass.sed : OpcodeClass.Statement .sed := rfl
theorem OpcodeClass.sei : OpcodeClass.Statement .sei := rfl
theorem OpcodeClass.staZp (b : Byte) : OpcodeClass.Statement (.staZp b) := rfl
theorem OpcodeClass.staZpx (b : Byte) : OpcodeClass.Statement (.staZpx b) := rfl
theorem OpcodeClass.staAbs (w : Word) : OpcodeClass.Statement (.staAbs w) := rfl
theorem OpcodeClass.staAbx (w : Word) : OpcodeClass.Statement (.staAbx w) := rfl
theorem OpcodeClass.staAby (w : Word) : OpcodeClass.Statement (.staAby w) := rfl
theorem OpcodeClass.staIzx (b : Byte) : OpcodeClass.Statement (.staIzx b) := rfl
theorem OpcodeClass.staIzy (b : Byte) : OpcodeClass.Statement (.staIzy b) := rfl
theorem OpcodeClass.stxZp (b : Byte) : OpcodeClass.Statement (.stxZp b) := rfl
theorem OpcodeClass.stxZpy (b : Byte) : OpcodeClass.Statement (.stxZpy b) := rfl
theorem OpcodeClass.stxAbs (w : Word) : OpcodeClass.Statement (.stxAbs w) := rfl
theorem OpcodeClass.styZp (b : Byte) : OpcodeClass.Statement (.styZp b) := rfl
theorem OpcodeClass.styZpx (b : Byte) : OpcodeClass.Statement (.styZpx b) := rfl
theorem OpcodeClass.styAbs (w : Word) : OpcodeClass.Statement (.styAbs w) := rfl
theorem OpcodeClass.tax : OpcodeClass.Statement .tax := rfl
theorem OpcodeClass.tay : OpcodeClass.Statement .tay := rfl
theorem OpcodeClass.tsx : OpcodeClass.Statement .tsx := rfl
theorem OpcodeClass.txa : OpcodeClass.Statement .txa := rfl
theorem OpcodeClass.txs : OpcodeClass.Statement .txs := rfl
theorem OpcodeClass.tya : OpcodeClass.Statement .tya := rfl
theorem OpcodeClass.illegal (op : Byte) : OpcodeClass.Statement (.illegal op) := by
  simp [OpcodeClass.Statement, Instr.wellFormed, Instr.entry]

end Sys2Proof.Laws
end

