-- ==== Sys2Proof/Laws/Step.lean ====
section
/-! SUPPORT. What a step can do, said once, and what every operation of the operation set keeps. -/

namespace Sys2Proof.Machine

/-- The host's next command is `clock()`: none is listed, or `clock` is the first one listed. -/
def State.clocks (s : State) : Prop := s.commands = [] ∨ s.commands.head? = some .clock

/-- A pulse with the counter at 0 runs the instruction at PC (40_execution_engine R100). -/
theorem clock_fetches {s : State} (h : s.cycles = 0) : clock s = exec s.fetchInstr s := if_pos h

/-- A pulse with the counter not at 0 counts down (R104, R106). -/
theorem clock_drains {s : State} (h : s.cycles ≠ 0) : clock s = .next (s.setCycles (s.cycles - 1)) := if_neg h

/-- With no command listed a step is a pulse. -/
theorem step_nil {s : State} (h : s.commands = []) : step s = clock s := by
  unfold step
  rw [h]

/-- With a command listed a step takes it off the list and runs it (10_state R43). -/
theorem step_cons {s : State} {c : Command} {rest : List Command} (h : s.commands = c :: rest) :
    step s = runCommand c (s.setCommands rest) := by
  unfold step
  rw [h]

/-- Exec answers a next state, that of the pulse, and no other. -/
theorem exec_next {i : Instr} {s t : State} (h : exec i s = .next t) :
    t = pulse i.entry.opcode i.entry.base i.entry.mode (operationOf i.entry.op) s := by
  rw [exec_eq_pulse] at h
  exact (Host.Outcome.next.inj h).symm

/-- Everything a step can do: run the instruction at PC, count down, or one of the four other commands; the command is
taken off the list first. -/
theorem step_cases {s t : State} (h : step s = .next t) :
    (s.clocks ∧ s.cycles = 0 ∧
      exec (s.setCommands s.commands.tail).fetchInstr (s.setCommands s.commands.tail) = .next t) ∨
    (s.clocks ∧ s.cycles ≠ 0 ∧ t = (s.setCommands s.commands.tail).setCycles (s.cycles - 1)) ∨
    (s.commands.head? = some .reset ∧ t = (s.setCommands s.commands.tail).resetCore) ∨
    (s.commands.head? = some .irq ∧ t = (s.setCommands s.commands.tail).irq) ∨
    (s.commands.head? = some .nmi ∧ t = (s.setCommands s.commands.tail).nmi) ∨
    (∃ bus, s.commands.head? = some (.init bus) ∧ t = (s.setCommands s.commands.tail).init bus) := by
  have pulseCase : ∀ u : State, u.cycles = s.cycles → clock u = .next t →
      (s.cycles = 0 ∧ exec u.fetchInstr u = .next t) ∨ (s.cycles ≠ 0 ∧ t = u.setCycles (s.cycles - 1)) := by
    intro u hu hc
    by_cases h0 : s.cycles = 0
    · exact .inl ⟨h0, by rwa [clock_fetches (hu.trans h0)] at hc⟩
    · rw [clock_drains (by rwa [hu]), hu] at hc
      exact .inr ⟨h0, (Host.Outcome.next.inj hc).symm⟩
  rcases hl : s.commands with _ | ⟨c, rest⟩
  · have hs : s.setCommands [] = s := by rw [← hl]; rfl
    rw [step_nil hl] at h
    rw [List.tail_nil, hs]
    rcases pulseCase s rfl h with h | h
    · exact .inl ⟨.inl hl, h⟩
    · exact .inr (.inl ⟨.inl hl, h⟩)
  · rw [step_cons hl] at h
    rw [List.tail_cons, List.head?_cons]
    cases c with
    | clock =>
      have hk : s.clocks := .inr (by rw [hl]; rfl)
      rcases pulseCase (s.setCommands rest) rfl h with h | h
      · exact .inl ⟨hk, h⟩
      · exact .inr (.inl ⟨hk, h⟩)
    | reset => exact .inr (.inr (.inl ⟨rfl, (Host.Outcome.next.inj h).symm⟩))
    | irq => exact .inr (.inr (.inr (.inl ⟨rfl, (Host.Outcome.next.inj h).symm⟩)))
    | nmi => exact .inr (.inr (.inr (.inr (.inl ⟨rfl, (Host.Outcome.next.inj h).symm⟩))))
    | init bus => exact .inr (.inr (.inr (.inr (.inr ⟨bus, rfl, (Host.Outcome.next.inj h).symm⟩))))

/-- What no operation changes: the recorded opcode, the offset a branch resolved, and the host's commands. -/
theorem operation_keeps (o : Op) (m : Mode) (s : State) :
    (operationOf o m s).1.opcode = s.opcode ∧ (operationOf o m s).1.addrRel = s.addrRel ∧
    (operationOf o m s).1.addrAbs = s.addrAbs ∧ (operationOf o m s).1.commands = s.commands := by
  cases o <;>
    simp [operationOf, opAdc, opAnd, opAsl, opBcc, opBcs, opBeq, opBit, opBmi, opBne, opBpl, opBrk, opBvc, opBvs, opClc,
      opCld, opCli, opClv, opCmp, opCpx, opCpy, opDec, opDex, opDey, opEor, opInc, opInx, opIny, opJmp, opJsr, opLda, opLdx,
      opLdy, opLsr, opNop, opOra, opPha, opPhp, opPla, opPlp, opRol, opRor, opRti, opRts, opSbc, opSec, opSed, opSei,
      opSta, opStx, opSty, opTax, opTay, opTsx, opTxa, opTxs, opTya, opIllegal, State.write, State.brkEntry_eq,
      State.returnFromException_eq, State.push_eq, State.pop_eq, State.pushWord_eq, State.popWord_eq]

/-- No operation but a branch touches the counter (47_control_transfer R220). -/
theorem operation_cycles (o : Op) (m : Mode) (s : State) (h : branchTest o = none) :
    (operationOf o m s).1.cycles = s.cycles := by
  cases o <;> first
    | (simp [branchTest] at h; done)
    | simp [operationOf, opAdc, opAnd, opAsl, opBit, opBrk, opClc,
        opCld, opCli, opClv, opCmp, opCpx, opCpy, opDec, opDex, opDey, opEor, opInc, opInx, opIny, opJmp, opJsr, opLda, opLdx,
        opLdy, opLsr, opNop, opOra, opPha, opPhp, opPla, opPlp, opRol, opRor, opRti, opRts, opSbc, opSec, opSed, opSei,
        opSta, opStx, opSty, opTax, opTay, opTsx, opTxa, opTxs, opTya, opIllegal, State.write, State.brkEntry_eq,
        State.returnFromException_eq, State.push_eq, State.pop_eq, State.pushWord_eq, State.popWord_eq]

/-- Every operation keeps the canonical form of memory. -/
theorem operation_wf (o : Op) (m : Mode) (s : State) (h : Memory.wf s.mem = true) :
    Memory.wf (operationOf o m s).1.mem = true := by
  have wb : ∀ r, Memory.wf (if m = .acc then s.mem else Memory.write s.mem s.addrAbs r) = true := by
    intro r
    split
    · exact h
    · exact Memory.wf_write _ _ h
  cases o <;>
    simp [operationOf, opAdc, opAnd, opAsl, opBcc, opBcs, opBeq, opBit, opBmi, opBne, opBpl, opBrk, opBvc, opBvs, opClc,
      opCld, opCli, opClv, opCmp, opCpx, opCpy, opDec, opDex, opDey, opEor, opInc, opInx, opIny, opJmp, opJsr, opLda, opLdx,
      opLdy, opLsr, opNop, opOra, opPha, opPhp, opPla, opPlp, opRol, opRor, opRti, opRts, opSbc, opSec, opSed, opSei,
      opSta, opStx, opSty, opTax, opTay, opTsx, opTxa, opTxs, opTya, opIllegal, State.write, State.brkEntry_eq,
      State.returnFromException_eq, State.push_eq, State.pop_eq, State.pushWord_eq, State.popWord_eq,
      State.writeBack_mem, Memory.wf_write, wf_exceptionFrame, h, wb]

end Sys2Proof.Machine
end

