-- ==== Sys2Proof/Tests/Slice0.lean ====
section
/-! SUPPORT. Tests. The expected results are those of spec/95_test_vectors (its vectors V and H), and the words are written
out from the opcode map of 30_encoding R73 with the operand bytes of R71. Then, for every statement with hypotheses, a
witness that meets them. -/

namespace Sys2Proof.Tests

open Sys2Proof.Machine

/-! ### Well-formedness -/

/-- A legal opcode value is not an illegal instruction. -/
theorem test_wellFormed_refuses_legal_opcode : (Instr.illegal 0xEA).wellFormed = false := by decide

theorem test_wellFormed_accepts_illegal_opcode : (Instr.illegal 0x02).wellFormed = true := by decide

/-! ### Decoding, one word for every row of the opcode map: operand byte 0x34, operand word 0x1234 -/

/-- What the decoder reads from words given with their number of bits. -/
def decoded (words : List (Nat × Nat)) : List (Option Instr) := words.map fun w => decodeTableWord w.1 w.2

theorem test_decode_row_0x :
    decoded
      [(8, 0x00), (16, 0x3401), (16, 0x3405), (16, 0x3406), (8, 0x08), (16, 0x3409), (8, 0x0A), (24, 0x12340D), (24,
       0x12340E)] =
      [some .brk, some (.oraIzx 0x34), some (.oraZp 0x34), some (.aslZp 0x34), some .php, some (.oraImm 0x34), some
       .aslAcc, some (.oraAbs 0x1234), some (.aslAbs 0x1234)] := by decide

theorem test_decode_row_1x :
    decoded
      [(16, 0x3410), (16, 0x3411), (16, 0x3415), (16, 0x3416), (8, 0x18), (24, 0x123419), (24, 0x12341D), (24,
       0x12341E)] =
      [some (.bpl 0x34), some (.oraIzy 0x34), some (.oraZpx 0x34), some (.aslZpx 0x34), some .clc, some (.oraAby
       0x1234), some (.oraAbx 0x1234), some (.aslAbx 0x1234)] := by decide

theorem test_decode_row_2x :
    decoded
      [(24, 0x123420), (16, 0x3421), (16, 0x3424), (16, 0x3425), (16, 0x3426), (8, 0x28), (16, 0x3429), (8, 0x2A),
       (24, 0x12342C), (24, 0x12342D), (24, 0x12342E)] =
      [some (.jsr 0x1234), some (.andIzx 0x34), some (.bitZp 0x34), some (.andZp 0x34), some (.rolZp 0x34), some
       .plp, some (.andImm 0x34), some .rolAcc, some (.bitAbs 0x1234), some (.andAbs 0x1234), some (.rolAbs 0x1234)] := by decide

theorem test_decode_row_3x :
    decoded
      [(16, 0x3430), (16, 0x3431), (16, 0x3435), (16, 0x3436), (8, 0x38), (24, 0x123439), (24, 0x12343D), (24,
       0x12343E)] =
      [some (.bmi 0x34), some (.andIzy 0x34), some (.andZpx 0x34), some (.rolZpx 0x34), some .sec, some (.andAby
       0x1234), some (.andAbx 0x1234), some (.rolAbx 0x1234)] := by decide

theorem test_decode_row_4x :
    decoded
      [(8, 0x40), (16, 0x3441), (16, 0x3445), (16, 0x3446), (8, 0x48), (16, 0x3449), (8, 0x4A), (24, 0x12344C), (24,
       0x12344D), (24, 0x12344E)] =
      [some .rti, some (.eorIzx 0x34), some (.eorZp 0x34), some (.lsrZp 0x34), some .pha, some (.eorImm 0x34), some
       .lsrAcc, some (.jmpAbs 0x1234), some (.eorAbs 0x1234), some (.lsrAbs 0x1234)] := by decide

theorem test_decode_row_5x :
    decoded
      [(16, 0x3450), (16, 0x3451), (16, 0x3455), (16, 0x3456), (8, 0x58), (24, 0x123459), (24, 0x12345D), (24,
       0x12345E)] =
      [some (.bvc 0x34), some (.eorIzy 0x34), some (.eorZpx 0x34), some (.lsrZpx 0x34), some .cli, some (.eorAby
       0x1234), some (.eorAbx 0x1234), some (.lsrAbx 0x1234)] := by decide

theorem test_decode_row_6x :
    decoded
      [(8, 0x60), (16, 0x3461), (16, 0x3465), (16, 0x3466), (8, 0x68), (16, 0x3469), (8, 0x6A), (24, 0x12346C), (24,
       0x12346D), (24, 0x12346E)] =
      [some .rts, some (.adcIzx 0x34), some (.adcZp 0x34), some (.rorZp 0x34), some .pla, some (.adcImm 0x34), some
       .rorAcc, some (.jmpInd 0x1234), some (.adcAbs 0x1234), some (.rorAbs 0x1234)] := by decide

theorem test_decode_row_7x :
    decoded
      [(16, 0x3470), (16, 0x3471), (16, 0x3475), (16, 0x3476), (8, 0x78), (24, 0x123479), (24, 0x12347D), (24,
       0x12347E)] =
      [some (.bvs 0x34), some (.adcIzy 0x34), some (.adcZpx 0x34), some (.rorZpx 0x34), some .sei, some (.adcAby
       0x1234), some (.adcAbx 0x1234), some (.rorAbx 0x1234)] := by decide

theorem test_decode_row_8x :
    decoded
      [(16, 0x3481), (16, 0x3484), (16, 0x3485), (16, 0x3486), (8, 0x88), (8, 0x8A), (24, 0x12348C), (24, 0x12348D),
       (24, 0x12348E)] =
      [some (.staIzx 0x34), some (.styZp 0x34), some (.staZp 0x34), some (.stxZp 0x34), some .dey, some .txa, some
       (.styAbs 0x1234), some (.staAbs 0x1234), some (.stxAbs 0x1234)] := by decide

theorem test_decode_row_9x :
    decoded
      [(16, 0x3490), (16, 0x3491), (16, 0x3494), (16, 0x3495), (16, 0x3496), (8, 0x98), (24, 0x123499), (8, 0x9A),
       (24, 0x12349D)] =
      [some (.bcc 0x34), some (.staIzy 0x34), some (.styZpx 0x34), some (.staZpx 0x34), some (.stxZpy 0x34), some
       .tya, some (.staAby 0x1234), some .txs, some (.staAbx 0x1234)] := by decide

theorem test_decode_row_Ax :
    decoded
      [(16, 0x34A0), (16, 0x34A1), (16, 0x34A2), (16, 0x34A4), (16, 0x34A5), (16, 0x34A6), (8, 0xA8), (16, 0x34A9),
       (8, 0xAA), (24, 0x1234AC), (24, 0x1234AD), (24, 0x1234AE)] =
      [some (.ldyImm 0x34), some (.ldaIzx 0x34), some (.ldxImm 0x34), some (.ldyZp 0x34), some (.ldaZp 0x34), some
       (.ldxZp 0x34), some .tay, some (.ldaImm 0x34), some .tax, some (.ldyAbs 0x1234), some (.ldaAbs 0x1234), some
       (.ldxAbs 0x1234)] := by decide

theorem test_decode_row_Bx :
    decoded
      [(16, 0x34B0), (16, 0x34B1), (16, 0x34B4), (16, 0x34B5), (16, 0x34B6), (8, 0xB8), (24, 0x1234B9), (8, 0xBA),
       (24, 0x1234BC), (24, 0x1234BD), (24, 0x1234BE)] =
      [some (.bcs 0x34), some (.ldaIzy 0x34), some (.ldyZpx 0x34), some (.ldaZpx 0x34), some (.ldxZpy 0x34), some
       .clv, some (.ldaAby 0x1234), some .tsx, some (.ldyAbx 0x1234), some (.ldaAbx 0x1234), some (.ldxAby 0x1234)] := by decide

theorem test_decode_row_Cx :
    decoded
      [(16, 0x34C0), (16, 0x34C1), (16, 0x34C4), (16, 0x34C5), (16, 0x34C6), (8, 0xC8), (16, 0x34C9), (8, 0xCA),
       (24, 0x1234CC), (24, 0x1234CD), (24, 0x1234CE)] =
      [some (.cpyImm 0x34), some (.cmpIzx 0x34), some (.cpyZp 0x34), some (.cmpZp 0x34), some (.decZp 0x34), some
       .iny, some (.cmpImm 0x34), some .dex, some (.cpyAbs 0x1234), some (.cmpAbs 0x1234), some (.decAbs 0x1234)] := by decide

theorem test_decode_row_Dx :
    decoded
      [(16, 0x34D0), (16, 0x34D1), (16, 0x34D5), (16, 0x34D6), (8, 0xD8), (24, 0x1234D9), (24, 0x1234DD), (24,
       0x1234DE)] =
      [some (.bne 0x34), some (.cmpIzy 0x34), some (.cmpZpx 0x34), some (.decZpx 0x34), some .cld, some (.cmpAby
       0x1234), some (.cmpAbx 0x1234), some (.decAbx 0x1234)] := by decide

theorem test_decode_row_Ex :
    decoded
      [(16, 0x34E0), (16, 0x34E1), (16, 0x34E4), (16, 0x34E5), (16, 0x34E6), (8, 0xE8), (16, 0x34E9), (8, 0xEA),
       (24, 0x1234EC), (24, 0x1234ED), (24, 0x1234EE)] =
      [some (.cpxImm 0x34), some (.sbcIzx 0x34), some (.cpxZp 0x34), some (.sbcZp 0x34), some (.incZp 0x34), some
       .inx, some (.sbcImm 0x34), some .nop, some (.cpxAbs 0x1234), some (.sbcAbs 0x1234), some (.incAbs 0x1234)] := by decide

theorem test_decode_row_Fx :
    decoded
      [(16, 0x34F0), (16, 0x34F1), (16, 0x34F5), (16, 0x34F6), (8, 0xF8), (24, 0x1234F9), (24, 0x1234FD), (24,
       0x1234FE)] =
      [some (.beq 0x34), some (.sbcIzy 0x34), some (.sbcZpx 0x34), some (.incZpx 0x34), some .sed, some (.sbcAby
       0x1234), some (.sbcAbx 0x1234), some (.incAbx 0x1234)] := by decide

theorem test_decode_illegal :
    decoded [(8, 0x02), (8, 0x04), (8, 0x80), (8, 0x9E), (8, 0xEB), (8, 0xFF)] =
      [some (.illegal 0x02), some (.illegal 0x04), some (.illegal 0x80), some (.illegal 0x9E), some (.illegal 0xEB),
       some (.illegal 0xFF)] := by decide

/-- An operand byte that is missing is no instruction. -/
theorem test_decode_missing_operand : decode [0xBD, 0xFF] = .error (.missingOperand 0xBD) := by rfl

/-! ### One step, from the start state S0 of spec/95_test_vectors with the bytes given -/

/-- S0 with the listed bytes in memory and the program counter. -/
def start (pc : Word) (cells : List Host.Cell) : State :=
  { State.reset with pc := pc, cycles := 0, mem := Memory.ofCells cells }

/-- The state a step answers; the state after reset where it answers none, which no test rests on. -/
def stateOr : Result → State
  | .next t => t
  | .fault _ | .refused _ => State.reset

/-- The registers a vector lists, the pulses it takes, and the bytes it writes. -/
structure Expect where
  a : Byte := 0x00
  x : Byte := 0x00
  y : Byte := 0x00
  sp : Byte := 0xFD
  st : Byte := 0x20
  pc : Word
  pulses : Byte
  writes : List Host.Cell := []

/-- A step answers a next state with what is expected; one pulse has passed. -/
def gives (s : State) (e : Expect) : Bool :=
  match step s with
  | .next t =>
    t.a == e.a && t.x == e.x && t.y == e.y && t.sp == e.sp && t.status == e.st && t.pc == e.pc &&
      t.cycles + 1 == e.pulses && e.writes.all fun c => t.read (BitVec.ofNat 16 c.1) == c.2
  | .fault _ | .refused _ => false

/-- V1: LDA #$00. -/
theorem test_lda_v1 : gives { start 0x8000 [(0x8000, 0xA9), (0x8001, 0x00)] with a := 0x55 }
    { st := 0x22, pc := 0x8002, pulses := 2 } = true := by decide

/-- V2: LDA #$80. -/
theorem test_lda_v2 : gives (start 0x8000 [(0x8000, 0xA9), (0x8001, 0x80)])
    { a := 0x80, st := 0xA0, pc := 0x8002, pulses := 2 } = true := by decide

/-- V3: LDA $10. -/
theorem test_lda_v3 : gives (start 0x8000 [(0x8000, 0xA5), (0x8001, 0x10), (0x0010, 0x7F)])
    { a := 0x7F, pc := 0x8002, pulses := 3 } = true := by decide

/-- V4: LDA $F0,X. -/
theorem test_lda_v4 : gives { start 0x8000 [(0x8000, 0xB5), (0x8001, 0xF0), (0x0010, 0x33)] with x := 0x20 }
    { a := 0x33, x := 0x20, pc := 0x8002, pulses := 4 } = true := by decide

/-- V5: LDA $20FF,X. -/
theorem test_lda_v5 :
    gives { start 0x8000 [(0x8000, 0xBD), (0x8001, 0xFF), (0x8002, 0x20), (0x2100, 0x44)] with x := 0x01 }
      { a := 0x44, x := 0x01, pc := 0x8003, pulses := 5 } = true := by decide

/-- V6: LDA $1200,Y. -/
theorem test_lda_v6 :
    gives { start 0x8000 [(0x8000, 0xB9), (0x8001, 0x00), (0x8002, 0x12), (0x12FF, 0x01)] with y := 0xFF }
      { a := 0x01, y := 0xFF, pc := 0x8003, pulses := 4 } = true := by decide

/-- V7: LDA $FFFF,X. -/
theorem test_lda_v7 :
    gives { start 0x8000 [(0x8000, 0xBD), (0x8001, 0xFF), (0x8002, 0xFF), (0x0001, 0x9A)] with x := 0x02 }
      { a := 0x9A, x := 0x02, st := 0xA0, pc := 0x8003, pulses := 5 } = true := by decide

/-- V8: LDA ($20,X). -/
theorem test_lda_v8 :
    gives { start 0x8000 [(0x8000, 0xA1), (0x8001, 0x20), (0x0024, 0x00), (0x0025, 0x30), (0x3000, 0xC5)] with x := 0x04 }
      { a := 0xC5, x := 0x04, st := 0xA0, pc := 0x8002, pulses := 6 } = true := by decide

/-- V9: LDA ($FF,X). -/
theorem test_lda_v9 :
    gives { start 0x8000 [(0x8000, 0xA1), (0x8001, 0xFF), (0x0000, 0x12), (0x00FF, 0x34), (0x1234, 0x56)] with x := 0x00 }
      { a := 0x56, pc := 0x8002, pulses := 6 } = true := by decide

/-- V11: LDA ($40),Y. -/
theorem test_lda_v11 :
    gives { start 0x8000 [(0x8000, 0xB1), (0x8001, 0x40), (0x0040, 0xF8), (0x0041, 0x30), (0x3108, 0x09)] with y := 0x10 }
      { a := 0x09, y := 0x10, pc := 0x8002, pulses := 6 } = true := by decide

/-- V12: LDA ($FF),Y. -/
theorem test_lda_v12 :
    gives { start 0x8000 [(0x8000, 0xB1), (0x8001, 0xFF), (0x0000, 0x40), (0x00FF, 0x00), (0x4000, 0x77)] with y := 0x00 }
      { a := 0x77, pc := 0x8002, pulses := 5 } = true := by decide

/-- V13: LDX $FF,Y. -/
theorem test_ldx_v13 : gives { start 0x8000 [(0x8000, 0xB6), (0x8001, 0xFF), (0x0001, 0x00)] with y := 0x02 }
    { y := 0x02, st := 0x22, pc := 0x8002, pulses := 4 } = true := by decide

/-- V14: LDX $10F0,Y. -/
theorem test_ldx_v14 :
    gives { start 0x8000 [(0x8000, 0xBE), (0x8001, 0xF0), (0x8002, 0x10), (0x1110, 0x80)] with y := 0x20 }
      { x := 0x80, y := 0x20, st := 0xA0, pc := 0x8003, pulses := 5 } = true := by decide

/-- V15: LDY #$FF. -/
theorem test_ldy_v15 : gives (start 0x8000 [(0x8000, 0xA0), (0x8001, 0xFF)])
    { y := 0xFF, st := 0xA0, pc := 0x8002, pulses := 2 } = true := by decide

/-- V16: LDY $3000,X. -/
theorem test_ldy_v16 :
    gives { start 0x8000 [(0x8000, 0xBC), (0x8001, 0x00), (0x8002, 0x30), (0x3005, 0x00)] with x := 0x05 }
      { x := 0x05, st := 0x22, pc := 0x8003, pulses := 4 } = true := by decide

/-- V17: STA $0200. -/
theorem test_sta_v17 : gives { start 0x8000 [(0x8000, 0x8D), (0x8001, 0x00), (0x8002, 0x02)] with a := 0x99 }
    { a := 0x99, pc := 0x8003, pulses := 4, writes := [(0x0200, 0x99)] } = true := by decide

/-- V18: STA $20FF,X. -/
theorem test_sta_v18 : gives { start 0x8000 [(0x8000, 0x9D), (0x8001, 0xFF), (0x8002, 0x20)] with a := 0x11, x := 0x01 }
    { a := 0x11, x := 0x01, pc := 0x8003, pulses := 5, writes := [(0x2100, 0x11)] } = true := by decide

/-- V19: STA ($40),Y. -/
theorem test_sta_v19 :
    gives { start 0x8000 [(0x8000, 0x91), (0x8001, 0x40), (0x0040, 0xF8), (0x0041, 0x30)] with a := 0x22, y := 0x10 }
      { a := 0x22, y := 0x10, pc := 0x8002, pulses := 6, writes := [(0x3108, 0x22)] } = true := by decide

/-- V20: STA ($FE,X). -/
theorem test_sta_v20 :
    gives { start 0x8000 [(0x8000, 0x81), (0x8001, 0xFE), (0x0000, 0x02), (0x00FF, 0x00)] with a := 0x5A, x := 0x01 }
      { a := 0x5A, x := 0x01, pc := 0x8002, pulses := 6, writes := [(0x0200, 0x5A)] } = true := by decide

/-- V21: STX $FF,Y. -/
theorem test_stx_v21 : gives { start 0x8000 [(0x8000, 0x96), (0x8001, 0xFF)] with x := 0xAB, y := 0x03 }
    { x := 0xAB, y := 0x03, pc := 0x8002, pulses := 4, writes := [(0x0002, 0xAB)] } = true := by decide

/-- V22: STY $80,X. -/
theorem test_sty_v22 : gives { start 0x8000 [(0x8000, 0x94), (0x8001, 0x80)] with y := 0xCD, x := 0x90 }
    { x := 0x90, y := 0xCD, pc := 0x8002, pulses := 4, writes := [(0x0010, 0xCD)] } = true := by decide

/-- V23: TAX. -/
theorem test_tax_v23 : gives { start 0x8000 [(0x8000, 0xAA)] with a := 0x00, x := 0x12 }
    { st := 0x22, pc := 0x8001, pulses := 2 } = true := by decide

/-- V24: TAY. -/
theorem test_tay_v24 : gives { start 0x8000 [(0x8000, 0xA8)] with a := 0xF0 }
    { a := 0xF0, y := 0xF0, st := 0xA0, pc := 0x8001, pulses := 2 } = true := by decide

/-- V25: TXA. -/
theorem test_txa_v25 : gives { start 0x8000 [(0x8000, 0x8A)] with x := 0x7F, a := 0x00 }
    { a := 0x7F, x := 0x7F, pc := 0x8001, pulses := 2 } = true := by decide

/-- V26: TYA. -/
theorem test_tya_v26 : gives { start 0x8000 [(0x8000, 0x98)] with y := 0x80 }
    { a := 0x80, y := 0x80, st := 0xA0, pc := 0x8001, pulses := 2 } = true := by decide

/-- V27: TSX. -/
theorem test_tsx_v27 : gives { start 0x8000 [(0x8000, 0xBA)] with sp := 0x00 }
    { sp := 0x00, st := 0x22, pc := 0x8001, pulses := 2 } = true := by decide

/-- V28: TXS. -/
theorem test_txs_v28 : gives { start 0x8000 [(0x8000, 0x9A)] with x := 0x00, status := 0x20 }
    { sp := 0x00, pc := 0x8001, pulses := 2 } = true := by decide

/-- V31: ADC #$50. -/
theorem test_adc_v31 : gives { start 0x8000 [(0x8000, 0x69), (0x8001, 0x50)] with a := 0x50 }
    { a := 0xA0, st := 0xE0, pc := 0x8002, pulses := 2 } = true := by decide

/-- V34: ADC #$FF. -/
theorem test_adc_v34 : gives { start 0x8000 [(0x8000, 0x69), (0x8001, 0xFF)] with a := 0xFF, status := 0x21 }
    { a := 0xFF, st := 0xA1, pc := 0x8002, pulses := 2 } = true := by decide

/-- V36: ADC $20FF,X. -/
theorem test_adc_v36 :
    gives { start 0x8000 [(0x8000, 0x7D), (0x8001, 0xFF), (0x8002, 0x20), (0x2100, 0x01)] with a := 0x01, x := 0x01 }
      { a := 0x02, x := 0x01, pc := 0x8003, pulses := 5 } = true := by decide

/-- V37: SBC #$F0. -/
theorem test_sbc_v37 : gives { start 0x8000 [(0x8000, 0xE9), (0x8001, 0xF0)] with a := 0x50, status := 0x21 }
    { a := 0x60, pc := 0x8002, pulses := 2 } = true := by decide

/-- V39: SBC #$01. -/
theorem test_sbc_v39 : gives { start 0x8000 [(0x8000, 0xE9), (0x8001, 0x01)] with a := 0x80, status := 0x21 }
    { a := 0x7F, st := 0x61, pc := 0x8002, pulses := 2 } = true := by decide

/-- V42: AND #$0F. -/
theorem test_and_v42 : gives { start 0x8000 [(0x8000, 0x29), (0x8001, 0x0F)] with a := 0xF0 }
    { st := 0x22, pc := 0x8002, pulses := 2 } = true := by decide

/-- V43: AND #$C0. -/
theorem test_and_v43 : gives { start 0x8000 [(0x8000, 0x29), (0x8001, 0xC0)] with a := 0xFF }
    { a := 0xC0, st := 0xA0, pc := 0x8002, pulses := 2 } = true := by decide

/-- V44: ORA #$80. -/
theorem test_ora_v44 : gives { start 0x8000 [(0x8000, 0x09), (0x8001, 0x80)] with a := 0x01 }
    { a := 0x81, st := 0xA0, pc := 0x8002, pulses := 2 } = true := by decide

/-- V45: EOR #$FF. -/
theorem test_eor_v45 : gives { start 0x8000 [(0x8000, 0x49), (0x8001, 0xFF)] with a := 0xFF }
    { st := 0x22, pc := 0x8002, pulses := 2 } = true := by decide

/-- V46: EOR #$0F. -/
theorem test_eor_v46 : gives { start 0x8000 [(0x8000, 0x49), (0x8001, 0x0F)] with a := 0xFF }
    { a := 0xF0, st := 0xA0, pc := 0x8002, pulses := 2 } = true := by decide

/-- V47: CMP #$20. -/
theorem test_cmp_v47 : gives { start 0x8000 [(0x8000, 0xC9), (0x8001, 0x20)] with a := 0x10 }
    { a := 0x10, st := 0xA0, pc := 0x8002, pulses := 2 } = true := by decide

/-- V51: CMP #$01. -/
theorem test_cmp_v51 : gives { start 0x8000 [(0x8000, 0xC9), (0x8001, 0x01)] with a := 0x90 }
    { a := 0x90, st := 0xA1, pc := 0x8002, pulses := 2 } = true := by decide

/-- V52: CPX #$05. -/
theorem test_cpx_v52 : gives { start 0x8000 [(0x8000, 0xE0), (0x8001, 0x05)] with x := 0x05 }
    { x := 0x05, st := 0x23, pc := 0x8002, pulses := 2 } = true := by decide

/-- V53: CPY #$06. -/
theorem test_cpy_v53 : gives { start 0x8000 [(0x8000, 0xC0), (0x8001, 0x06)] with y := 0x05 }
    { y := 0x05, st := 0xA0, pc := 0x8002, pulses := 2 } = true := by decide

/-- V54: BIT $10. -/
theorem test_bit_v54 : gives { start 0x8000 [(0x8000, 0x24), (0x8001, 0x10), (0x0010, 0xC0)] with a := 0x01 }
    { a := 0x01, st := 0xE2, pc := 0x8002, pulses := 3 } = true := by decide

/-- V55: BIT $2000. -/
theorem test_bit_v55 :
    gives { start 0x8000 [(0x8000, 0x2C), (0x8001, 0x00), (0x8002, 0x20), (0x2000, 0x01)] with a := 0xFF, status := 0xE0 }
      { a := 0xFF, pc := 0x8003, pulses := 4 } = true := by decide

/-- V56: INC $10. -/
theorem test_inc_v56 : gives (start 0x8000 [(0x8000, 0xE6), (0x8001, 0x10), (0x0010, 0xFF)])
    { st := 0x22, pc := 0x8002, pulses := 5, writes := [(0x0010, 0x00)] } = true := by decide

/-- V57: INC $20FF,X. -/
theorem test_inc_v57 :
    gives { start 0x8000 [(0x8000, 0xFE), (0x8001, 0xFF), (0x8002, 0x20), (0x2100, 0x7F)] with x := 0x01 }
      { x := 0x01, st := 0xA0, pc := 0x8003, pulses := 7, writes := [(0x2100, 0x80)] } = true := by decide

/-- V58: DEC $10. -/
theorem test_dec_v58 : gives (start 0x8000 [(0x8000, 0xC6), (0x8001, 0x10), (0x0010, 0x00)])
    { st := 0xA0, pc := 0x8002, pulses := 5, writes := [(0x0010, 0xFF)] } = true := by decide

/-- V59: DEC $2000. -/
theorem test_dec_v59 : gives (start 0x8000 [(0x8000, 0xCE), (0x8001, 0x00), (0x8002, 0x20), (0x2000, 0x01)])
    { st := 0x22, pc := 0x8003, pulses := 6, writes := [(0x2000, 0x00)] } = true := by decide

/-- V60: INX. -/
theorem test_inx_v60 : gives { start 0x8000 [(0x8000, 0xE8)] with x := 0xFF }
    { st := 0x22, pc := 0x8001, pulses := 2 } = true := by decide

/-- V61: INY. -/
theorem test_iny_v61 : gives { start 0x8000 [(0x8000, 0xC8)] with y := 0x7F }
    { y := 0x80, st := 0xA0, pc := 0x8001, pulses := 2 } = true := by decide

/-- V62: DEX. -/
theorem test_dex_v62 : gives { start 0x8000 [(0x8000, 0xCA)] with x := 0x00 }
    { x := 0xFF, st := 0xA0, pc := 0x8001, pulses := 2 } = true := by decide

/-- V63: DEY. -/
theorem test_dey_v63 : gives { start 0x8000 [(0x8000, 0x88)] with y := 0x01 }
    { st := 0x22, pc := 0x8001, pulses := 2 } = true := by decide

/-- V70: ASL A. -/
theorem test_asl_v70 : gives { start 0x8000 [(0x8000, 0x0A)] with a := 0x80 }
    { st := 0x23, pc := 0x8001, pulses := 2 } = true := by decide

/-- V71: ASL $10. -/
theorem test_asl_v71 : gives (start 0x8000 [(0x8000, 0x06), (0x8001, 0x10), (0x0010, 0x41)])
    { st := 0xA0, pc := 0x8002, pulses := 5, writes := [(0x0010, 0x82)] } = true := by decide

/-- V72: LSR A. -/
theorem test_lsr_v72 : gives { start 0x8000 [(0x8000, 0x4A)] with a := 0x01 }
    { st := 0x23, pc := 0x8001, pulses := 2 } = true := by decide

/-- V73: LSR $2000. -/
theorem test_lsr_v73 : gives (start 0x8000 [(0x8000, 0x4E), (0x8001, 0x00), (0x8002, 0x20), (0x2000, 0xFE)])
    { pc := 0x8003, pulses := 6, writes := [(0x2000, 0x7F)] } = true := by decide

/-- V74: ROL A. -/
theorem test_rol_v74 : gives { start 0x8000 [(0x8000, 0x2A)] with a := 0x80, status := 0x21 }
    { a := 0x01, st := 0x21, pc := 0x8001, pulses := 2 } = true := by decide

/-- V75: ROL $10. -/
theorem test_rol_v75 : gives { start 0x8000 [(0x8000, 0x26), (0x8001, 0x10), (0x0010, 0x40)] with status := 0x20 }
    { st := 0xA0, pc := 0x8002, pulses := 5, writes := [(0x0010, 0x80)] } = true := by decide

/-- V76: ROR A. -/
theorem test_ror_v76 : gives { start 0x8000 [(0x8000, 0x6A)] with a := 0x02, status := 0x21 }
    { a := 0x81, st := 0xA0, pc := 0x8001, pulses := 2 } = true := by decide

/-- V77: ROR $20FF,X. -/
theorem test_ror_v77 :
    gives { start 0x8000 [(0x8000, 0x7E), (0x8001, 0xFF), (0x8002, 0x20), (0x2100, 0x01)] with x := 0x01, status := 0x20 }
      { x := 0x01, st := 0x23, pc := 0x8003, pulses := 7, writes := [(0x2100, 0x00)] } = true := by decide

/-- V80: CLC. -/
theorem test_clc_v80 : gives { start 0x8000 [(0x8000, 0x18)] with status := 0xFF }
    { st := 0xFE, pc := 0x8001, pulses := 2 } = true := by decide

/-- V81: CLD. -/
theorem test_cld_v81 : gives { start 0x8000 [(0x8000, 0xD8)] with status := 0xFF }
    { st := 0xF7, pc := 0x8001, pulses := 2 } = true := by decide

/-- V82: CLI. -/
theorem test_cli_v82 : gives { start 0x8000 [(0x8000, 0x58)] with status := 0xFF }
    { st := 0xFB, pc := 0x8001, pulses := 2 } = true := by decide

/-- V83: CLV. -/
theorem test_clv_v83 : gives { start 0x8000 [(0x8000, 0xB8)] with status := 0xFF }
    { st := 0xBF, pc := 0x8001, pulses := 2 } = true := by decide

/-- V84: SEC. -/
theorem test_sec_v84 : gives (start 0x8000 [(0x8000, 0x38)])
    { st := 0x21, pc := 0x8001, pulses := 2 } = true := by decide

/-- V85: SED. -/
theorem test_sed_v85 : gives (start 0x8000 [(0x8000, 0xF8)])
    { st := 0x28, pc := 0x8001, pulses := 2 } = true := by decide

/-- V86: SEI. -/
theorem test_sei_v86 : gives (start 0x8000 [(0x8000, 0x78)])
    { st := 0x24, pc := 0x8001, pulses := 2 } = true := by decide

/-- V90: PHA. -/
theorem test_pha_v90 : gives { start 0x8000 [(0x8000, 0x48)] with a := 0x5A }
    { a := 0x5A, sp := 0xFC, pc := 0x8001, pulses := 3, writes := [(0x01FD, 0x5A)] } = true := by decide

/-- V91: PHA. -/
theorem test_pha_v91 : gives { start 0x8000 [(0x8000, 0x48)] with a := 0x5A, sp := 0x00 }
    { a := 0x5A, sp := 0xFF, pc := 0x8001, pulses := 3, writes := [(0x0100, 0x5A)] } = true := by decide

/-- V95: PLA. -/
theorem test_pla_v95 : gives { start 0x8000 [(0x8000, 0x68), (0x01FD, 0x80)] with sp := 0xFC }
    { a := 0x80, st := 0xA0, pc := 0x8001, pulses := 4 } = true := by decide

/-- V96: PLA. -/
theorem test_pla_v96 : gives { start 0x8000 [(0x8000, 0x68), (0x0100, 0x00)] with sp := 0xFF }
    { sp := 0x00, st := 0x22, pc := 0x8001, pulses := 4 } = true := by decide

/-- V97: PLP. -/
theorem test_plp_v97 : gives { start 0x8000 [(0x8000, 0x28), (0x01FD, 0xDF)] with sp := 0xFC, status := 0x20 }
    { st := 0xDF, pc := 0x8001, pulses := 4 } = true := by decide

/-- V98: PLP. -/
theorem test_plp_v98 : gives { start 0x8000 [(0x8000, 0x28), (0x01FD, 0x00)] with sp := 0xFC, status := 0xFF }
    { st := 0x00, pc := 0x8001, pulses := 4 } = true := by decide

/-- V100: BCC *+16. -/
theorem test_bcc_v100 : gives { start 0x8000 [(0x8000, 0x90), (0x8001, 0x10)] with status := 0x21 }
    { st := 0x21, pc := 0x8002, pulses := 2 } = true := by decide

/-- V102: BCC *+127. -/
theorem test_bcc_v102 : gives { start 0x80F0 [(0x80F0, 0x90), (0x80F1, 0x7F)] with status := 0x20 }
    { pc := 0x8171, pulses := 4 } = true := by decide

/-- V103: BCS *-4. -/
theorem test_bcs_v103 : gives { start 0x8000 [(0x8000, 0xB0), (0x8001, 0xFC)] with status := 0x21 }
    { st := 0x21, pc := 0x7FFE, pulses := 4 } = true := by decide

/-- V104: BEQ *+2. -/
theorem test_beq_v104 : gives { start 0x8000 [(0x8000, 0xF0), (0x8001, 0x02)] with status := 0x22 }
    { st := 0x22, pc := 0x8004, pulses := 3 } = true := by decide

/-- V105: BMI *+2. -/
theorem test_bmi_v105 : gives { start 0x8000 [(0x8000, 0x30), (0x8001, 0x02)] with status := 0x20 }
    { pc := 0x8002, pulses := 2 } = true := by decide

/-- V106: BNE *-2. -/
theorem test_bne_v106 : gives { start 0x8000 [(0x8000, 0xD0), (0x8001, 0xFE)] with status := 0x20 }
    { pc := 0x8000, pulses := 3 } = true := by decide

/-- V107: BPL *-128. -/
theorem test_bpl_v107 : gives { start 0x8080 [(0x8080, 0x10), (0x8081, 0x80)] with status := 0x20 }
    { pc := 0x8002, pulses := 3 } = true := by decide

/-- V108: BVC *+2. -/
theorem test_bvc_v108 : gives { start 0x8000 [(0x8000, 0x50), (0x8001, 0x02)] with status := 0x60 }
    { st := 0x60, pc := 0x8002, pulses := 2 } = true := by decide

/-- V109: BVS *+2. -/
theorem test_bvs_v109 : gives { start 0x8000 [(0x8000, 0x70), (0x8001, 0x02)] with status := 0x60 }
    { st := 0x60, pc := 0x8004, pulses := 3 } = true := by decide

/-- V110: BNE *+14. -/
theorem test_bne_v110 : gives { start 0xFFF0 [(0xFFF0, 0xD0), (0xFFF1, 0x0E)] with status := 0x20 }
    { pc := 0x0000, pulses := 4 } = true := by decide

/-- V111: JMP $1234. -/
theorem test_jmp_v111 : gives (start 0x8000 [(0x8000, 0x4C), (0x8001, 0x34), (0x8002, 0x12)])
    { pc := 0x1234, pulses := 3 } = true := by decide

/-- V112: JMP ($0200). -/
theorem test_jmp_v112 :
    gives (start 0x8000 [(0x8000, 0x6C), (0x8001, 0x00), (0x8002, 0x02), (0x0200, 0x78), (0x0201, 0x56)])
      { pc := 0x5678, pulses := 5 } = true := by decide

/-- V113: JMP ($02FF). -/
theorem test_jmp_v113 :
    gives (start 0x8000 [(0x8000, 0x6C), (0x8001, 0xFF), (0x8002, 0x02), (0x0200, 0x80), (0x02FF, 0x0E), (0x0300, 0x90)])
      { pc := 0x800E, pulses := 5 } = true := by decide

/-- V114: JSR $9000. -/
theorem test_jsr_v114 : gives (start 0x8000 [(0x8000, 0x20), (0x8001, 0x00), (0x8002, 0x90)])
    { sp := 0xFB, pc := 0x9000, pulses := 6, writes := [(0x01FD, 0x80), (0x01FC, 0x02)] } = true := by decide

/-- V115: JSR $9000. -/
theorem test_jsr_v115 : gives { start 0x8000 [(0x8000, 0x20), (0x8001, 0x00), (0x8002, 0x90)] with sp := 0x00 }
    { sp := 0xFE, pc := 0x9000, pulses := 6, writes := [(0x0100, 0x80), (0x01FF, 0x02)] } = true := by decide

/-- V116: RTS. -/
theorem test_rts_v116 : gives { start 0x8000 [(0x8000, 0x60), (0x01FC, 0x02), (0x01FD, 0x80)] with sp := 0xFB }
    { pc := 0x8003, pulses := 6 } = true := by decide

/-- V117: RTS. -/
theorem test_rts_v117 : gives { start 0x8000 [(0x8000, 0x60), (0x01FC, 0xFF), (0x01FD, 0xFF)] with sp := 0xFB }
    { pc := 0x0000, pulses := 6 } = true := by decide

/-- V120: BRK. -/
theorem test_brk_v120 :
    gives (start 0x8000 [(0x8000, 0x00), (0x8001, 0x00), (0xFFFE, 0x00), (0xFFFF, 0x90)])
      { sp := 0xFA, st := 0x24, pc := 0x9000, pulses := 7, writes := [(0x01FD, 0x80), (0x01FC, 0x02), (0x01FB, 0x30)] } = true := by decide

/-- V121: BRK. -/
theorem test_brk_v121 :
    gives { start 0x8000 [(0x8000, 0x00), (0x8001, 0x00), (0xFFFE, 0x00), (0xFFFF, 0x90)] with status := 0xC3 }
      { sp := 0xFA, st := 0xC7, pc := 0x9000, pulses := 7, writes := [(0x01FD, 0x80), (0x01FC, 0x02), (0x01FB, 0xF3)] } = true := by decide

/-- V122: RTI. -/
theorem test_rti_v122 :
    gives { start 0x8000 [(0x8000, 0x40), (0x01FB, 0xFF), (0x01FC, 0x03), (0x01FD, 0x80)] with sp := 0xFA }
      { st := 0xCF, pc := 0x8003, pulses := 6 } = true := by decide

/-- V123: NOP. -/
theorem test_nop_v123 : gives { start 0x8000 [(0x8000, 0xEA)] with a := 0x12, status := 0xE3 }
    { a := 0x12, st := 0xE3, pc := 0x8001, pulses := 2 } = true := by decide

/-- V127: NOP. -/
theorem test_nop_v127 : gives (start 0xFFFF [(0xFFFF, 0xEA)])
    { pc := 0x0000, pulses := 2 } = true := by decide

/-- V92 but for the byte pushed, which rests on PHP_PUSH_OR. -/
theorem test_php_v92 : (stateOr (exec .php { start 0x8000 [] with status := 0xA3 })).sp = 0xFC := by decide

/-- V124 but for the pulses, which rest on ILLEGAL_BASE_CYCLES: one byte long, nothing changed. -/
theorem test_illegal_v124 :
    let t := (stateOr (step { start 0x8000 [(0x8000, 0x02), (0x8001, 0xA9)] with a := 0x12 }))
    (t.pc, t.a, t.status) = (0x8001, 0x12, 0x20) := by decide

/-! ### Host commands -/

/-- H1: reset(); the opcode stays. -/
theorem test_reset_h1 :
    let t := (stateOr (step { start 0x1234 [(0xFFFC, 0x00), (0xFFFD, 0x80)] with
      a := 0x11, x := 0x22, y := 0x33, sp := 0x10, status := 0xFF, opcode := 0xEA, commands := [.reset] }))
    t.introspect = ⟨0x00, 0x00, 0x00, 0xFD, 0x8000, 0x20, 0xEA, 8⟩ := by decide

/-- H2: irq() with I = 1 changes nothing. -/
theorem test_irq_h2 :
    let s := { start 0x8000 [(0xFFFF, 0x90)] with status := 0x24 }
    step { s with commands := [.irq] } = .next s := by rfl

/-- H6: irq() while an instruction drains; the three pulses left are overwritten. -/
theorem test_irq_h6 :
    let s := (stateOr (step (start 0x8000 [(0x8000, 0xAD), (0x8002, 0x20), (0x2000, 0x42), (0xFFFF, 0x90)])))
    gives { s with commands := [.irq] }
      { a := 0x42, sp := 0xFA, st := 0x24, pc := 0x9000, pulses := 8
        writes := [(0x01FD, 0x80), (0x01FC, 0x03), (0x01FB, 0x24)] } = true := by decide

/-- H10: the stack wraps within page 1. -/
theorem test_irq_h10 :
    gives { start 0x8000 [(0xFFFF, 0x90)] with sp := 0x01, commands := [.irq] }
      { sp := 0xFE, st := 0x24, pc := 0x9000, pulses := 8
        writes := [(0x0101, 0x80), (0x0100, 0x00), (0x01FF, 0x24)] } = true := by decide

/-- H4 but for PC, which rests on NMI_VECTOR: taken although I = 1. -/
theorem test_nmi_h4 :
    let t := (stateOr (step { start 0x8000 [] with status := 0x24, commands := [.nmi] }))
    (t.sp, t.status, t.cycles) = (0xFA, 0x24, 8) := by decide

/-- H9: init. -/
theorem test_init_h9 :
    let t := (stateOr (step { start 0x8000 [] with commands := [.init [(0xFFFC, 0x34), (0xFFFD, 0x12)]] }))
    t.introspect = ⟨0x00, 0x00, 0x00, 0xFD, 0x1234, 0x20, 0x00, 8⟩ := by decide

/-! ### The first instruction after reset -/

theorem test_withFetchWord_lda : (stateOr (step (State.reset.withFetchWord 16 0x42A9))).a = 0x42 := by decide

theorem test_withFetchWord_jsr : (stateOr (step (State.reset.withFetchWord 24 0x900020))).pc = 0x9000 := by decide

/-! ### Assembly (30_encoding R79) -/

/-- The offset of a branch at 0x8008 back to 0x8004 is 0xFA (program P1). -/
theorem test_branchOffset : branchOffset 0x8008 0x8004 = some 0xFA := by decide

/-! ### Witnesses: states and operands that meet the hypotheses of each statement, clause by clause -/

theorem test_witness_OpcodeMapEntries :
    (0x00, .brk, .imp, 7) ∈ specMap ∧ (0xFE, .inc, .abx 0, 7) ∈ specMap := by decide

theorem test_witness_DecodeOfEncode :
    (Instr.ldaAbx 0xFFFF).wellFormed = true ∧ (Instr.illegal 0xFF).wellFormed = true := by decide

theorem test_witness_EncodeOfDecode : decode [0xBD, 0xFF, 0x20, 0xEA] = .ok (.ldaAbx 0x20FF, [0xEA]) := by rfl

theorem test_witness_EveryOpcodeDecodes :
    (0x02 ∈ illegalOpcodes ∧ 0xFF ∈ illegalOpcodes) ∧ 0x00 ∉ illegalOpcodes ∧ 0xFE ∉ illegalOpcodes := by decide

theorem test_witness_OpcodeByteFixesTheEntry :
    (Instr.ldaImm 0x00).wellFormed = true ∧ (Instr.ldaImm 0xFF).wellFormed = true ∧
    (Instr.ldaImm 0x00).entry.opcode = (Instr.ldaImm 0xFF).entry.opcode := by decide

/-- LDA #$42 at 0x8000, the counter at 0. -/
def lda42 : State := start 0x8000 [(0x8000, 0xA9), (0x8001, 0x42)]

theorem test_witness_StepRunsTheDecodedInstruction :
    lda42.cycles = 0 ∧ lda42.commands = [] ∧ ({ lda42 with commands := [.clock, .irq] } : State).commands = .clock :: [.irq] ∧
    decode [lda42.read lda42.pc, lda42.read (lda42.pc + 1), lda42.read (lda42.pc + 2)] = .ok (.ldaImm 0x42, [0x00]) :=
  ⟨rfl, rfl, rfl, rfl⟩

theorem test_witness_DrainingPulseOnlyCountsDown :
    State.reset.cycles ≠ 0 ∧ State.reset.commands = [] ∧
    ({ State.reset with commands := [.clock, .nmi] } : State).commands = .clock :: [.nmi] := by decide

/-- A taken branch to another page leaves the longest count a branch can, 3. -/
theorem test_witness_RemainingPulsesDrain :
    lda42.commands = [] ∧ exec (.bne 0x80) lda42 = .next (stateOr (exec (.bne 0x80) lda42)) ∧
    (stateOr (exec (.bne 0x80) lda42)).cycles = 3 := ⟨rfl, rfl, by decide⟩

/-- No command listed: a fetching pulse and a draining one. -/
theorem test_witness_OpcodeIsTheLastFetched :
    (lda42.commands = [] ∧ lda42.cycles = 0 ∧ step lda42 = .next (stateOr (step lda42))) ∧
    (State.reset.commands = [] ∧ State.reset.cycles ≠ 0 ∧ step State.reset = .next (stateOr (step State.reset))) :=
  ⟨⟨rfl, rfl, rfl⟩, rfl, by decide, rfl⟩

/-- `clock` listed first: a fetching pulse and a draining one, from the counter's greatest value. -/
theorem test_witness_OpcodeIsTheLastFetched_clock :
    (let s : State := { lda42 with commands := [.clock] }
     s.commands.head? = some .clock ∧ s.cycles = 0 ∧ step s = .next (stateOr (step s))) ∧
    (let s : State := { lda42 with cycles := 0xFF, commands := [.clock, .irq] }
     s.commands.head? = some .clock ∧ s.cycles ≠ 0 ∧ step s = .next (stateOr (step s))) :=
  ⟨⟨rfl, rfl, rfl⟩, rfl, by decide, rfl⟩

/-- `reset`, `irq` and `nmi` listed first. -/
theorem test_witness_OpcodeIsTheLastFetched_commands :
    (let s : State := { lda42 with commands := [.reset] }
     s.commands.head? = some .reset ∧ step s = .next (stateOr (step s))) ∧
    (let s : State := { lda42 with commands := [.irq] }
     s.commands.head? = some .irq ∧ step s = .next (stateOr (step s))) ∧
    (let s : State := { lda42 with commands := [.nmi] }
     s.commands.head? = some .nmi ∧ step s = .next (stateOr (step s))) :=
  ⟨⟨rfl, rfl⟩, ⟨rfl, rfl⟩, rfl, rfl⟩

theorem test_witness_EveryStepKeepsTheInvariant :
    State.reset.Inv ∧ step State.reset = .next (stateOr (step State.reset)) := ⟨by decide, rfl⟩

/-- From a counter of 8, the greatest allowed: no command listed, and `clock` listed first. -/
theorem test_witness_ClockLeavesAtMostSeven :
    (State.reset.cycles.toNat ≤ 8 ∧ State.reset.commands = [] ∧
      step State.reset = .next (stateOr (step State.reset))) ∧
    (let s : State := { State.reset with commands := [.clock] }
     s.cycles.toNat ≤ 8 ∧ s.commands.head? = some .clock ∧ step s = .next (stateOr (step s))) :=
  ⟨⟨by decide, rfl, rfl⟩, by decide, rfl, rfl⟩

theorem test_witness_ResetCommand : ({ lda42 with commands := [.reset] } : State).commands = .reset :: [] := rfl

theorem test_witness_InitCommand :
    ({ lda42 with commands := [.init [(0xFFFD, 0x80)]] } : State).commands = .init [(0xFFFD, 0x80)] :: [] := rfl

theorem test_witness_ResetStateIsInitOnAnEmptyBus :
    ({ lda42 with commands := [.init []] } : State).commands = [.init []] := rfl

theorem test_witness_IrqCommand :
    ({ lda42 with commands := [.irq] } : State).commands = .irq :: [] ∧ getFlag lda42.status .i = false ∧
    getFlag (lda42.setStatus 0xFF).status .i = true := by decide

theorem test_witness_NmiCommand : ({ lda42 with commands := [.nmi] } : State).commands = .nmi :: [] := rfl

theorem test_witness_RtiAfterInterrupt :
    (let s : State := { lda42 with commands := [.irq] }
     s.commands = .irq :: [] ∧ getFlag s.status .i = false ∧ step s = .next (stateOr (step s)) ∧
     exec .rti (stateOr (step s)) = .next (stateOr (exec .rti (stateOr (step s))))) ∧
    (let s : State := { lda42 with commands := [.nmi] }
     s.commands = .nmi :: [] ∧ step s = .next (stateOr (step s)) ∧
     exec .rti (stateOr (step s)) = .next (stateOr (exec .rti (stateOr (step s))))) :=
  ⟨⟨rfl, by decide, rfl, rfl⟩, rfl, rfl, rfl⟩

theorem test_witness_LdaLoadsA : (Instr.ldaAbx 0x20FF).entry.op = .lda ∧ (Instr.ldaImm 0x00).entry.op = .lda := by decide

theorem test_witness_LdxLdyLoadTheIndex :
    (Instr.ldxAby 0x10F0).entry.op = .ldx ∧ (Instr.ldyImm 0xFF).entry.op = .ldy := by decide

theorem test_witness_StoresWriteTheRegister :
    (Instr.staIzy 0x40).entry.op = .sta ∧ (Instr.stxZpy 0xFF).entry.op = .stx ∧ (Instr.styZpx 0x80).entry.op = .sty := by
  decide

theorem test_witness_AdcAdds : (Instr.adcImm 0xFF).entry.op = .adc := rfl

theorem test_witness_SbcAddsTheComplement : (Instr.sbcAbx 0xFFFF).entry.op = .sbc := rfl

/-- 0x7F + 0x01 overflows, and 0x7F - 0xFE with a borrow does: both clauses at a boundary of the signed range. -/
theorem test_witness_CarryAndOverflowAreIntegerFacts :
    let s := lda42.setA 0x7F
    (exec (.adcImm 0x01) s = .next (stateOr (exec (.adcImm 0x01) s)) ∧ (Instr.adcImm 0x01).entry.op = .adc ∧
      getFlag (stateOr (exec (.adcImm 0x01) s)).status .v = true) ∧
    (exec (.sbcImm 0xFE) s = .next (stateOr (exec (.sbcImm 0xFE) s)) ∧ (Instr.sbcImm 0xFE).entry.op = .sbc ∧
      getFlag (stateOr (exec (.sbcImm 0xFE) s)).status .v = true) :=
  ⟨⟨rfl, rfl, by decide⟩, rfl, rfl, by decide⟩

theorem test_witness_LogicIntoA :
    (Instr.andImm 0x0F).entry.op = .and ∧ (Instr.oraIzx 0xFF).entry.op = .ora ∧ (Instr.eorZp 0x00).entry.op = .eor := by
  decide

theorem test_witness_ComparesSetFlagsOnly :
    (Instr.cmpImm 0xFF).entry.op = .cmp ∧ (Instr.cpxZp 0x00).entry.op = .cpx ∧ (Instr.cpyAbs 0xFFFF).entry.op = .cpy := by
  decide

theorem test_witness_BitTestsMemory : (Instr.bitAbs 0x2000).entry.op = .bit := rfl

theorem test_witness_IncDecMemory :
    (Instr.incAbx 0x20FF).entry.op = .inc ∧ (Instr.decZp 0x10).entry.op = .dec := by decide

theorem test_witness_ShiftsByOneBit :
    (Instr.aslAcc.entry.op = .asl ∧ Instr.aslAcc.entry.mode = .acc) ∧
    ((Instr.lsrAbs 0x2000).entry.op = .lsr ∧ (Instr.lsrAbs 0x2000).entry.mode ≠ .acc) := by decide

theorem test_witness_RotatesThroughCarry :
    (Instr.rolAcc.entry.op = .rol ∧ Instr.rolAcc.entry.mode = .acc) ∧
    ((Instr.rorAbx 0x20FF).entry.op = .ror ∧ (Instr.rorAbx 0x20FF).entry.mode ≠ .acc) := by decide

theorem test_witness_PushThenPullIsNetZero :
    let s := lda42.setSp 0x00
    exec .pha s = .next (stateOr (exec .pha s)) ∧
    exec .pla (stateOr (exec .pha s)) = .next (stateOr (exec .pla (stateOr (exec .pha s)))) := ⟨rfl, rfl⟩

/-- Taken and not taken, for the least and the greatest offset. -/
theorem test_witness_Branches :
    (branchTest (Instr.bcc 0x80).entry.op = some (.c, false) ∧ (Instr.bcc 0x80).entry.mode = .rel 0x80 ∧
      getFlag lda42.status .c = false) ∧
    (branchTest (Instr.bvs 0x7F).entry.op = some (.v, true) ∧ (Instr.bvs 0x7F).entry.mode = .rel 0x7F ∧
      getFlag lda42.status .v ≠ true) := by decide

theorem test_witness_JmpLoadsPc : (Instr.jmpInd 0x02FF).entry.op = .jmp ∧ (Instr.jmpAbs 0x1234).entry.op = .jmp := by decide

theorem test_witness_RtsAfterJsr :
    let s := lda42.setSp 0x00
    exec (.jsr 0x9000) s = .next (stateOr (exec (.jsr 0x9000) s)) ∧
    exec .rts (stateOr (exec (.jsr 0x9000) s)) = .next (stateOr (exec .rts (stateOr (exec (.jsr 0x9000) s)))) := ⟨rfl, rfl⟩

theorem test_witness_RtiAfterBrk :
    let s := lda42.setSp 0x02
    exec .brk s = .next (stateOr (exec .brk s)) ∧
    exec .rti (stateOr (exec .brk s)) = .next (stateOr (exec .rti (stateOr (exec .brk s)))) := ⟨rfl, rfl⟩

theorem test_witness_OnlyListedFlagsChange : exec .clc lda42 = .next (stateOr (exec .clc lda42)) := rfl

/-- NOP writes none of the four registers. -/
theorem test_witness_OnlyListedRegistersChange :
    exec .nop lda42 = .next (stateOr (exec .nop lda42)) ∧ writesA .nop = false ∧ writesX .nop = false ∧
    writesY .nop = false ∧ writesSp .nop = false := ⟨rfl, rfl, rfl, rfl, rfl⟩

theorem test_witness_PcAdvancesPastTheInstruction :
    exec (.staAbs 0x0200) (lda42.setPc 0xFFFF) = .next (stateOr (exec (.staAbs 0x0200) (lda42.setPc 0xFFFF))) ∧
    transfersControl (Instr.staAbs 0x0200).entry.op = false := ⟨rfl, rfl⟩

theorem test_witness_NonStoringLeaveMemory :
    exec (.ldaImm 0x42) lda42 = .next (stateOr (exec (.ldaImm 0x42) lda42)) ∧ storesAtEA (.ldaImm 0x42) = false ∧
    pushCount (Instr.ldaImm 0x42).entry.op = 0 := ⟨rfl, rfl, rfl⟩

theorem test_witness_StoresLeaveOtherBytes :
    exec (.rolZp 0xFF) lda42 = .next (stateOr (exec (.rolZp 0xFF) lda42)) ∧ storesAtEA (.rolZp 0xFF) = true ∧
    (0x0100 : Word) ≠ lda42.ea (Instr.rolZp 0xFF).entry.mode := ⟨rfl, rfl, by decide⟩

/-- BRK with SP at 0x01 pushes at 0x0101, 0x0100 and 0x01FF; 0x0200 is none of them. -/
theorem test_witness_PushesLeaveOtherBytes :
    let s := lda42.setSp 0x01
    exec .brk s = .next (stateOr (exec .brk s)) ∧ storesAtEA .brk = false ∧
    ∀ k : Nat, k < pushCount Instr.brk.entry.op → (0x0200 : Word) ≠ stackAddr (s.sp - BitVec.ofNat 8 k) :=
  ⟨rfl, rfl, by decide⟩

theorem test_witness_DecimalBreakUnusedDecideNothing :
    (Instr.adcImm 0x01).entry.op ≠ .php ∧ (Instr.adcImm 0x01).entry.op ≠ .brk ∧
    ((0xF9 : Byte) ^^^ (lda42.setStatus 0xC1).status) &&& 0xC7 = 0x00 := by decide

end Sys2Proof.Tests
end

section
/-! The contents of the bus after `init`: what a list of cells reads as, and a list for any given contents
(00_scope R7, 20_memory R50, R53, R61). -/

namespace Sys2Proof.Machine

theorem Memory.ofCells_concat (cells : List Host.Cell) (c : Host.Cell) :
    Memory.ofCells (cells ++ [c]) = Memory.write (Memory.ofCells cells) (BitVec.ofNat 16 c.1) c.2 :=
  List.foldl_append ..

/-- The cell listed last decides its byte, as the most recent write does (20_memory R61). -/
theorem Memory.read_ofCells_concat (cells : List Host.Cell) (k : Nat) (b : Byte) (addr : Word) :
    Memory.read (Memory.ofCells (cells ++ [(k, b)])) addr =
      if addr = BitVec.ofNat 16 k then b else Memory.read (Memory.ofCells cells) addr := by
  rw [Memory.ofCells_concat, Memory.read_write]

/-- The lowest `n` bytes of the memory contents `f`, one cell for each address. -/
def cellsBelow (f : Word → Byte) (n : Nat) : List Host.Cell :=
  (List.range n).map fun k => (k, f (BitVec.ofNat 16 k))

theorem cellsBelow_succ (f : Word → Byte) (n : Nat) :
    cellsBelow f (n + 1) = cellsBelow f n ++ [(n, f (BitVec.ofNat 16 n))] := by
  simp [cellsBelow, List.range_succ]

/-- A bus that lists the lowest `n` bytes of `f` reads as `f` at each of their addresses. -/
theorem Memory.read_ofCells_cellsBelow (f : Word → Byte) (n : Nat) (addr : Word) (h : addr.toNat < n) :
    Memory.read (Memory.ofCells (cellsBelow f n)) addr = f addr := by
  induction n with
  | zero => exact absurd h (Nat.not_lt_zero _)
  | succ n ih =>
    rw [cellsBelow_succ, Memory.read_ofCells_concat]
    by_cases heq : addr = BitVec.ofNat 16 n
    · rw [if_pos heq, heq]
    · have hne : addr.toNat ≠ n := fun hn => heq (by rw [← hn, BitVec.ofNat_toNat, BitVec.setWidth_eq])
      rw [if_neg heq, ih (by omega)]

/-- Settles O19: the bus that lists all 65536 addresses (20_memory R50) reads as the given function. -/
theorem initialMemoryIsFree : Obligations.InitialMemoryIsFree :=
  fun f => ⟨cellsBelow f 65536, fun addr => Memory.read_ofCells_cellsBelow f 65536 addr addr.isLt⟩

end Sys2Proof.Machine
end

section
/-! What an operation of the operation set depends on and what it leaves unchanged, and exec as the operation on the
resolved state (40_execution_engine R100 to R106). -/

namespace Sys2Proof.Machine

/-- The operations with e2 true, which take a cycle more on a page crossing (40_execution_engine R105). -/
def eligible : Op → Bool
  | .adc | .sbc | .and | .ora | .eor | .cmp | .lda | .ldx | .ldy => true
  | .asl | .bcc | .bcs | .beq | .bit | .bmi | .bne | .bpl | .brk | .bvc | .bvs | .clc | .cld | .cli | .clv | .cpx | .cpy
  | .dec | .dex | .dey | .inc | .inx | .iny | .jmp | .jsr | .lsr | .nop | .pha | .php | .pla | .plp | .rol | .ror | .rti
  | .rts | .sec | .sed | .sei | .sta | .stx | .sty | .tax | .tay | .tsx | .txa | .txs | .tya | .illegal => false

/-- The whole of a branch: the counter, PC and nothing else; e2 is false (47_control_transfer R220). -/
theorem branch_eq (c : Bool) (s : State) :
    branch c s = ({ s with
      cycles := s.cycles + (if c then (if hiByte (s.pc + s.addrRel) = hiByte s.pc then 1 else 2) else 0)
      pc := if c then s.pc + s.addrRel else s.pc }, false) := by
  rw [← branch_cycles, ← branch_pc]
  cases c with
  | false => rfl
  | true =>
    simp only [branch, if_true]
    split <;> rfl

/-- The eight branches are one operation on the flag and the value of the branch table (47_control_transfer R221 to
R228). -/
theorem operationOf_branch {o : Op} {f : Flag} {b : Bool} (h : branchTest o = some (f, b)) (m : Mode) (s : State) :
    operationOf o m s = branch (getFlag s.status f == b) s := by
  cases o <;> cases h <;> simp [operationOf, opBcc, opBcs, opBeq, opBmi, opBne, opBpl, opBvc, opBvs]

/-- An operation reads its mode for two things only: the operand, and whether a shift writes back to A. So all but the
accumulator forms of the shifts run as on an immediate operand (41_addressing_modes R132, 44_shift_rotate). -/
theorem operationOf_imm {o : Op} {m : Mode} (h : ¬ (isShift o = true ∧ m = .acc)) (s : State) :
    operationOf o m s = operationOf o (.imm (s.fetchOperand m).2) s := by
  cases m with
  | acc =>
    have hshift : isShift o = false := by simpa using h
    cases o <;> cases hshift <;> rfl
  | _ => cases o <;> rfl

/-- The e2 signal of an operation does not depend on the state (R103, R105). -/
theorem operationOf_snd (o : Op) (m : Mode) (s : State) : (operationOf o m s).2 = eligible o := by
  cases hb : branchTest o with
  | none => cases o <;> cases hb <;> rfl
  | some p =>
    rw [operationOf_branch hb, branch_eq]
    cases o <;> cases hb <;> rfl

/-- The registers an operation leaves as they were (10_state R20, R24). -/
theorem operation_registers (o : Op) (m : Mode) (s : State) :
    ((writesAInEveryMode o || (isShift o && m == .acc)) = false → (operationOf o m s).1.a = s.a) ∧
    (writesX o = false → (operationOf o m s).1.x = s.x) ∧ (writesY o = false → (operationOf o m s).1.y = s.y) ∧
    (writesSp o = false → (operationOf o m s).1.sp = s.sp) ∧
    (transfersControl o = false → (operationOf o m s).1.pc = s.pc) := by
  cases o <;>
    simp +contextual [operationOf, opAdc, opAnd, opAsl, opBcc, opBcs, opBeq, opBit, opBmi, opBne, opBpl, opBrk, opBvc,
      opBvs, opClc, opCld, opCli, opClv, opCmp, opCpx, opCpy, opDec, opDex, opDey, opEor, opInc, opInx, opIny, opJmp,
      opJsr, opLda, opLdx, opLdy, opLsr, opNop, opOra, opPha, opPhp, opPla, opPlp, opRol, opRor, opRti, opRts, opSbc,
      opSec, opSed, opSei, opSta, opStx, opSty, opTax, opTay, opTsx, opTxa, opTxs, opTya, opIllegal, writesAInEveryMode,
      isShift, writesX, writesY, writesSp, transfersControl, State.writeBack_a, State.brkEntry_eq,
      State.returnFromException_eq, State.pushWord_eq, State.popWord_eq]

/-- The operation of an instruction on the resolved state: the state after it and e2 (R102, R103). -/
def State.operated (s : State) (i : Instr) : State × Bool :=
  operationOf i.entry.op i.entry.mode (s.resolved i.entry.opcode i.entry.base i.entry.mode)

/-- What the counter holds when the pulse that fetches an instruction ends (R105, R106). -/
def State.cyclesAfter (s : State) (i : Instr) : Byte :=
  (s.operated i).1.cycles + (if s.crosses i.entry.mode && eligible i.entry.op then 1 else 0) - 1

/-- Exec runs the operation on the resolved state, then sets the counter. -/
theorem exec_eq_operated (i : Instr) (s : State) :
    exec i s = .next ((s.operated i).1.setCycles (s.cyclesAfter i)) := by
  rw [exec_eq_pulse, pulse_eq, State.cyclesAfter, State.operated, operationOf_snd]

theorem exec_operated {i : Instr} {s t : State} (h : exec i s = .next t) :
    t = (s.operated i).1.setCycles (s.cyclesAfter i) := by
  rw [exec_eq_operated] at h
  exact (Host.Outcome.next.inj h).symm

/-- A step runs the first listed command, or `clock` when none is listed (10_state R43, log entry 2). -/
theorem step_eq_runCommand (s : State) :
    step s = runCommand (s.commands.headD .clock) (s.setCommands s.commands.tail) := by
  cases hl : s.commands with
  | nil =>
    rw [step_nil hl, List.headD_nil, List.tail_nil, ← hl]
    rfl
  | cons c rest => exact step_cons hl

end Sys2Proof.Machine
end

section
/-! Nothing a later step can see depends on the transient decode fields (10_state R33). -/

namespace Sys2Proof.Machine

/-- Two states that differ in the transient decode fields only (10_state R31). -/
def State.SameButTransient (t t' : State) : Prop := t' = t.withTransient t'.fetched t'.addrAbs t'.addrRel

/-- The modes that compute an effective address (41_addressing_modes R123 to R131). -/
def computesEA : Mode → Bool
  | .imm _ | .zp _ | .zpx _ | .zpy _ | .abs _ | .abx _ | .aby _ | .ind _ | .izx _ | .izy _ => true
  | .imp | .acc | .rel _ | .ill => false

/-- The operations that read neither an operand nor an address: those of the modes IMP and ILL. -/
def readsNoOperand : Op → Bool
  | .brk | .clc | .cld | .cli | .clv | .dex | .dey | .inx | .iny | .nop | .pha | .php | .pla | .plp | .rti | .rts | .sec
  | .sed | .sei | .tax | .tay | .tsx | .txa | .txs | .tya | .illegal => true
  | .adc | .and | .asl | .bcc | .bcs | .beq | .bit | .bmi | .bne | .bpl | .bvc | .bvs | .cmp | .cpx | .cpy | .dec | .eor
  | .inc | .jmp | .jsr | .lda | .ldx | .ldy | .lsr | .ora | .rol | .ror | .sbc | .sta | .stx | .sty => false

/-- The opcode table gives each operation a mode that supplies the decode field the operation reads (30_encoding R73). -/
theorem entry_kind (i : Instr) :
    (branchTest i.entry.op = none ∧ computesEA i.entry.mode = true) ∨
    (isShift i.entry.op = true ∧ i.entry.mode = .acc) ∨
    (∃ p o, branchTest i.entry.op = some p ∧ i.entry.mode = .rel o) ∨
    readsNoOperand i.entry.op = true := by
  cases i <;> simp [Instr.entry, branchTest, computesEA, isShift, readsNoOperand]

theorem State.SameButTransient.setCycles {t t' : State} (h : t.SameButTransient t') (c : Byte) :
    (t.setCycles c).SameButTransient (t'.setCycles c) := by
  unfold State.SameButTransient at h
  rw [h]
  rfl

theorem State.SameButTransient.cycles_eq {t t' : State} (h : t.SameButTransient t') : t'.cycles = t.cycles := by
  unfold State.SameButTransient at h
  rw [h]
  rfl

/-- An operation at an effective address overwrites `fetched` before it reads it and does not read `addr_rel`. -/
theorem operation_imm_withTransient {o : Op} (h : branchTest o = none) (v f : Byte) (rel : Word) (s : State) :
    (operationOf o (.imm v) s).1.SameButTransient (operationOf o (.imm v) (s.withTransient f s.addrAbs rel)).1 := by
  cases o <;> cases h <;> rfl

/-- A shift of A reads `fetched` only. -/
theorem operation_acc_withTransient {o : Op} (h : isShift o = true) (ea rel : Word) (s : State) :
    (operationOf o .acc s).1.SameButTransient (operationOf o .acc (s.withTransient s.fetched ea rel)).1 := by
  cases o <;> cases h <;> rfl

/-- A branch reads `addr_rel` only. -/
theorem branch_withTransient (c : Bool) (f : Byte) (ea : Word) (s : State) :
    (branch c s).1.SameButTransient (branch c (s.withTransient f ea s.addrRel)).1 := by
  rw [branch_eq c s, branch_eq c (s.withTransient f ea s.addrRel)]
  rfl

theorem operation_none_withTransient {o : Op} (h : readsNoOperand o = true) (m : Mode) (f : Byte) (ea rel : Word)
    (s : State) : (operationOf o m s).1.SameButTransient (operationOf o m (s.withTransient f ea rel)).1 := by
  cases o <;> cases h <;> rfl

/-- Resolve leaves other values in the transient fields when it finds other values there, and no other difference. -/
theorem resolved_withTransient (s : State) (f : Byte) (ea rel : Word) (opcode base : Byte) (m : Mode) :
    (s.withTransient f ea rel).resolved opcode base m =
      (s.resolved opcode base m).withTransient ((s.withTransient f ea rel).fetchedAfter m)
        (((s.withTransient f ea rel).setPc (s.pc + 1)).ea m) ((s.withTransient f ea rel).relAfter m) := rfl

theorem ea_withTransient {m : Mode} (h : computesEA m = true) (s : State) (f : Byte) (ea rel pc : Word) :
    ((s.withTransient f ea rel).setPc pc).ea m = (s.setPc pc).ea m := by
  cases m <;> cases h <;> rfl

theorem crosses_withTransient (s : State) (f : Byte) (ea rel : Word) (m : Mode) :
    (s.withTransient f ea rel).crosses m = s.crosses m := by
  cases m <;> rfl

theorem operand_withTransient {m : Mode} (h : computesEA m = true) (s : State) (f : Byte) (ea rel : Word) :
    (s.withTransient f ea rel).operand m = s.operand m := by
  cases m <;> cases h <;> rfl

/-- The four ways an instruction can read a decode field, each of a field that Resolve has just written. -/
theorem operated_withTransient (i : Instr) (s : State) (f : Byte) (ea rel : Word) :
    (s.operated i).1.SameButTransient ((s.withTransient f ea rel).operated i).1 := by
  simp only [State.operated]
  rcases entry_kind i with ⟨hb, hm⟩ | ⟨hs, hm⟩ | ⟨⟨fl, b⟩, off, hb, hm⟩ | hn
  · have hacc : ¬ (isShift i.entry.op = true ∧ i.entry.mode = .acc) := fun h => by simp [h.2, computesEA] at hm
    rw [operationOf_imm hacc, operationOf_imm hacc, resolved_fetchOperand, resolved_fetchOperand,
      operand_withTransient hm, resolved_withTransient, ea_withTransient hm]
    exact operation_imm_withTransient hb _ _ _ _
  · rw [resolved_withTransient, hm]
    exact operation_acc_withTransient hs _ _ _
  · rw [operationOf_branch hb, operationOf_branch hb, resolved_withTransient, hm]
    exact branch_withTransient _ _ _ _
  · rw [resolved_withTransient]
    exact operation_none_withTransient hn _ _ _ _ _

theorem exec_withTransient (i : Instr) (s : State) (f : Byte) (ea rel : Word) : ∃ t t' : State,
    exec i s = .next t ∧ exec i (s.withTransient f ea rel) = .next t' ∧ t.SameButTransient t' := by
  have h := operated_withTransient i s f ea rel
  have hc : (s.withTransient f ea rel).cyclesAfter i = s.cyclesAfter i := by
    rw [State.cyclesAfter, State.cyclesAfter, h.cycles_eq, crosses_withTransient]
  refine ⟨_, _, exec_eq_operated i s, exec_eq_operated i _, ?_⟩
  rw [hc]
  exact h.setCycles _

theorem clock_withTransient (s : State) (f : Byte) (ea rel : Word) : ∃ t t' : State,
    clock s = .next t ∧ clock (s.withTransient f ea rel) = .next t' ∧ t.SameButTransient t' := by
  by_cases h : s.cycles = 0
  · have h' : (s.withTransient f ea rel).cycles = 0 := h
    rw [clock_fetches h, clock_fetches h']
    exact exec_withTransient s.fetchInstr s f ea rel
  · have h' : (s.withTransient f ea rel).cycles ≠ 0 := h
    exact ⟨_, _, clock_drains h, clock_drains h', rfl⟩

theorem irq_withTransient (s : State) (f : Byte) (ea rel : Word) :
    s.irq.SameButTransient (s.withTransient f ea rel).irq := by
  rcases State.irq_cases s with ⟨hi, hs⟩ | ⟨hi, hs⟩ <;>
    rcases State.irq_cases (s.withTransient f ea rel) with ⟨hi', hs'⟩ | ⟨hi', hs'⟩
  · rw [hs, hs']; rfl
  · exact absurd (hi.symm.trans hi') (by decide)
  · exact absurd (hi.symm.trans hi') (by decide)
  · rw [hs, hs']; rfl

theorem runCommand_withTransient (c : Command) (s : State) (f : Byte) (ea rel : Word) : ∃ t t' : State,
    runCommand c s = .next t ∧ runCommand c (s.withTransient f ea rel) = .next t' ∧ t.SameButTransient t' := by
  cases c with
  | clock => exact clock_withTransient s f ea rel
  | irq => exact ⟨_, _, rfl, rfl, irq_withTransient s f ea rel⟩
  | reset => exact ⟨_, _, rfl, rfl, rfl⟩
  | nmi => exact ⟨_, _, rfl, rfl, rfl⟩
  | init bus => exact ⟨_, _, rfl, rfl, rfl⟩

/-- Settles O12: the two steps run the same command, and every command keeps the difference within those fields. -/
theorem transientFieldsNeverInfluence : Obligations.TransientFieldsNeverInfluence := by
  intro s f ea rel
  rw [step_eq_runCommand s, step_eq_runCommand (s.withTransient f ea rel)]
  exact runCommand_withTransient _ (s.setCommands s.commands.tail) f ea rel

end Sys2Proof.Machine
end

section
/-! The invariant: memory in canonical form and a counter of at most 8 (10_state R31, R50). -/

namespace Sys2Proof.Machine

/-- The base counts: 1 to 8, at most 6 where a page crossing can add a pulse, 2 for the branches (30_encoding R73). -/
theorem entry_base (i : Instr) :
    1 ≤ i.entry.base.toNat ∧ i.entry.base.toNat ≤ 8 ∧ (eligible i.entry.op = true → i.entry.base.toNat ≤ 6) ∧
    (branchTest i.entry.op ≠ none → i.entry.base.toNat = 2) := by
  cases i <;> simp [Instr.entry, eligible, branchTest, illegalBaseCycles_range]

/-- What an operation leaves in the counter: the base count, with one or two pulses more for a taken branch
(40_execution_engine R100, 47_control_transfer R220). -/
theorem operated_cycles_toNat (s : State) (i : Instr) :
    1 ≤ (s.operated i).1.cycles.toNat ∧ (s.operated i).1.cycles.toNat ≤ 8 ∧
    (eligible i.entry.op = true → (s.operated i).1.cycles.toNat ≤ 6) := by
  obtain ⟨hlow, hhigh, helig, hbranch⟩ := entry_base i
  unfold State.operated
  cases hb : branchTest i.entry.op with
  | none =>
    rw [operation_cycles _ _ _ hb]
    exact ⟨hlow, hhigh, helig⟩
  | some p =>
    have h2 : (s.resolved i.entry.opcode i.entry.base i.entry.mode).cycles = 2 :=
      BitVec.eq_of_toNat_eq (hbranch (by simp [hb]))
    rw [operationOf_branch hb, branch_cycles, h2]
    split
    · split <;> simp
    · simp

/-- The pulse that fetches an instruction leaves at most 7 (10_state R31, R105). -/
theorem cyclesAfter_le (s : State) (i : Instr) : (s.cyclesAfter i).toNat ≤ 7 := by
  obtain ⟨hlow, hhigh, helig⟩ := operated_cycles_toNat s i
  unfold State.cyclesAfter
  split
  · next h =>
    have := helig (Bool.and_eq_true_iff.mp h).2
    bv_omega
  · bv_omega

/-- A pulse leaves at most 7 when the counter held at most 8, whether it fetches or drains (R104, R106). -/
theorem clock_cycles_le {s t : State} (hs : s.cycles.toNat ≤ 8) (h : clock s = .next t) : t.cycles.toNat ≤ 7 := by
  by_cases h0 : s.cycles = 0
  · rw [clock_fetches h0] at h
    rw [exec_operated h]
    exact cyclesAfter_le s _
  · rw [clock_drains h0] at h
    cases h
    rw [State.setCycles_cycles]
    bv_omega

theorem clock_wf {s t : State} (hs : Memory.wf s.mem = true) (h : clock s = .next t) : Memory.wf t.mem = true := by
  by_cases h0 : s.cycles = 0
  · rw [clock_fetches h0] at h
    rw [exec_operated h]
    exact operation_wf _ _ _ hs
  · rw [clock_drains h0] at h
    cases h
    exact hs

/-- Every command keeps the invariant: a pulse counts down from at most 8, the other commands set 8 or 7 or leave the
counter alone. -/
theorem runCommand_inv {c : Command} {s t : State} (hs : s.Inv) (h : runCommand c s = .next t) : t.Inv := by
  obtain ⟨hwf, hcycles⟩ := hs
  cases c with
  | clock => exact ⟨clock_wf hwf h, (clock_cycles_le hcycles h).trans (by decide)⟩
  | reset =>
    cases h
    exact ⟨hwf, le_refl 8⟩
  | irq =>
    cases h
    rcases State.irq_cases s with ⟨-, hi⟩ | ⟨-, hi⟩ <;> rw [hi]
    · exact ⟨hwf, hcycles⟩
    · exact ⟨wf_exceptionFrame s _ hwf, Nat.le_succ 7⟩
  | nmi =>
    cases h
    rw [State.nmi_eq]
    exact ⟨wf_exceptionFrame s _ hwf, le_refl 8⟩
  | init bus =>
    cases h
    exact ⟨Memory.wf_ofCells bus, le_refl 8⟩

/-- Settles O14: a step is one command. -/
theorem everyStepKeepsTheInvariant : Obligations.EveryStepKeepsTheInvariant := by
  intro s t hs h
  rw [step_eq_runCommand] at h
  exact runCommand_inv (s := s.setCommands s.commands.tail) hs h

/-- Settles O15: with `clock` next, by choice or by the list, the step is a pulse. -/
theorem clockLeavesAtMostSeven : Obligations.ClockLeavesAtMostSeven := by
  intro s t hs hclock h
  have hhead : s.commands.headD .clock = .clock := by
    rcases hclock with hn | hc
    · rw [hn]; rfl
    · rw [List.headD_eq_head?_getD, hc]; rfl
  rw [step_eq_runCommand, hhead] at h
  exact clock_cycles_le (s := s.setCommands s.commands.tail) hs h

/-- Settles O13: memory lists nothing and the counter holds 8 (70_reset R402). -/
theorem resetMeetsTheInvariant : Obligations.ResetMeetsTheInvariant := ⟨wf_reset, le_refl 8⟩

end Sys2Proof.Machine
end

section
/-! What an instruction leaves of STATUS, the registers and PC (10_state R20 to R29). -/

namespace Sys2Proof.Machine

/-- Settles O24: the bit numbers and `get_flag` by definition, `set_flag` bit by bit. -/
theorem setFlagWritesOneBit : Obligations.SetFlagWritesOneBit :=
  ⟨rfl, fun st f on => ⟨rfl, getLsbD_setFlag st f on⟩⟩

theorem Flag.getLsbD_mask (f : Flag) (k : Nat) (hk : k < 8) : f.mask.getLsbD k = decide (k = f.bit) := by
  cases f <;> interval_cases k <;> rfl

/-- `set_flag` by mask (10_state R26). -/
theorem setFlag_eq (st : Byte) (f : Flag) (on : Bool) : setFlag st f on = withBits st f.mask (bitsIf on f.mask) := by
  refine byte_ext fun k hk => ?_
  rw [getLsbD_setFlag _ _ _ _ hk, getLsbD_withBits _ _ _ _ hk, getLsbD_bitsIf, f.getLsbD_mask k hk]
  by_cases h : k = f.bit <;> simp [h]

/-- Replacing the bits of a mask keeps every bit outside it. -/
theorem withBits_keeps (st mask bits : Byte) : withBits st mask bits &&& ~~~ mask = st &&& ~~~ mask := by
  refine byte_ext fun k hk => ?_
  rw [BitVec.getLsbD_and, getLsbD_withBits _ _ _ _ hk, BitVec.getLsbD_and, BitVec.getLsbD_not]
  cases mask.getLsbD k <;> simp

theorem setNZ_keeps (st v : Byte) : setNZ st v &&& ~~~ 0x82 = st &&& ~~~ 0x82 := by
  rw [setNZ_eq]
  exact withBits_keeps _ _ _

theorem setCNZ_keeps (st : Byte) (c : Bool) (v : Byte) : setCNZ st c v &&& ~~~ 0x83 = st &&& ~~~ 0x83 := by
  rw [setCNZ_eq]
  exact withBits_keeps _ _ _

theorem compareStatus_keeps (st r m : Byte) : compareStatus st r m &&& ~~~ 0x83 = st &&& ~~~ 0x83 := by
  rw [compareStatus_eq]
  exact withBits_keeps _ _ _

theorem bitStatus_keeps (st a m : Byte) : bitStatus st a m &&& ~~~ 0xC2 = st &&& ~~~ 0xC2 := by
  rw [bitStatus_eq]
  exact withBits_keeps _ _ _

theorem addStatus_keeps (s : State) (m : Byte) : addStatus s.status s.a m &&& ~~~ 0xC3 = s.status &&& ~~~ 0xC3 := by
  rw [addStatus_eq]
  exact withBits_keeps _ _ _

theorem setFlag_keeps (st : Byte) (f : Flag) (on : Bool) : setFlag st f on &&& ~~~ f.mask = st &&& ~~~ f.mask := by
  rw [setFlag_eq]
  exact withBits_keeps _ _ _

/-- An operation keeps the STATUS bits outside its row of the flag table (10_state R29). -/
theorem operation_status (o : Op) (m : Mode) (s : State) :
    (operationOf o m s).1.status &&& ~~~ flagsWritten o = s.status &&& ~~~ flagsWritten o := by
  cases o with
  | adc | sbc => exact addStatus_keeps s _
  | and | ora | eor | lda | ldx | ldy | tax | tay | txa | tya | tsx | pla | inc | dec | inx | iny | dex | dey =>
    exact setNZ_keeps s.status _
  | cmp | cpx | cpy => exact compareStatus_keeps s.status _ _
  | asl | lsr | rol | ror => exact setCNZ_keeps s.status _ _
  | bit => exact bitStatus_keeps s.status _ _
  | clc | sec => exact setFlag_keeps s.status .c _
  | cli | sei | brk => exact setFlag_keeps s.status .i _
  | cld | sed => exact setFlag_keeps s.status .d _
  | clv => exact setFlag_keeps s.status .v _
  | plp | rti => simp [flagsWritten]
  | bcc | bcs | beq | bmi | bne | bpl | bvc | bvs => exact congrArg (· &&& _) (branch_status _ s)
  | sta | stx | sty | txs | pha | php | jmp | jsr | rts | nop | illegal => rfl

/-- Settles O54: the flag table holds of the operation, and the rest of the pulse leaves STATUS alone. -/
theorem onlyListedFlagsChange : Obligations.OnlyListedFlagsChange := by
  intro i s t h
  rw [exec_operated h]
  exact operation_status _ _ _

/-- Settles O55: the register table holds of the operation, and Resolve writes none of these registers. -/
theorem onlyListedRegistersChange : Obligations.OnlyListedRegistersChange := by
  intro i s t h
  rw [exec_operated h]
  obtain ⟨ha, hx, hy, hsp, -⟩ :=
    operation_registers i.entry.op i.entry.mode (s.resolved i.entry.opcode i.entry.base i.entry.mode)
  obtain ⟨-, -, -, hcommands⟩ :=
    operation_keeps i.entry.op i.entry.mode (s.resolved i.entry.opcode i.entry.base i.entry.mode)
  exact ⟨ha, hx, hy, hsp, hcommands⟩

/-- Settles O56: Resolve has moved PC past the instruction, and the operation leaves it there. -/
theorem pcAdvancesPastTheInstruction : Obligations.PcAdvancesPastTheInstruction := by
  intro i s t h htransfer
  obtain ⟨-, -, -, -, hpc⟩ :=
    operation_registers i.entry.op i.entry.mode (s.resolved i.entry.opcode i.entry.base i.entry.mode)
  have hadvanced : (s.operated i).1.pc = s.pc + BitVec.ofNat 16 i.size :=
    (hpc htransfer).trans (congrArg State.pc (resolved_setCycles s i))
  rw [exec_operated h, State.setCycles_pc, hadvanced]
  simp [BitVec.toNat_add]

end Sys2Proof.Machine
end

section
/-! B, U and D decide nothing but the byte PHP and BRK push (10_state R28, 43_arithmetic_logic R177). -/

namespace Sys2Proof.Machine

/-- Two states that differ in the bits B, U and D of STATUS only. -/
def State.SameButBUD (t t' : State) : Prop := t' = t.setStatus t'.status ∧ t'.status &&& 0xC7 = t.status &&& 0xC7

/-- Bytes whose difference a mask hides agree on the mask. -/
theorem xor_and_eq_zero_iff (v w mask : Byte) : (v ^^^ w) &&& mask = 0x00 ↔ v &&& mask = w &&& mask := by
  have h : (v ^^^ w) &&& mask = (v &&& mask) ^^^ (w &&& mask) := by
    refine byte_ext fun k hk => ?_
    simp only [BitVec.getLsbD_and, BitVec.getLsbD_xor]
    cases mask.getLsbD k <;> simp
  rw [h]
  exact BitVec.xor_eq_zero_iff

section
variable {v w : Byte} (h : v &&& 0xC7 = w &&& 0xC7)
include h

theorem withBits_agree (mask bits : Byte) : withBits v mask bits &&& 0xC7 = withBits w mask bits &&& 0xC7 := by
  refine byte_ext fun k hk => ?_
  have hbit := congrArg (BitVec.getLsbD · k) h
  simp only [BitVec.getLsbD_and, getLsbD_withBits _ _ _ _ hk] at hbit ⊢
  split
  · rfl
  · exact hbit

theorem setNZ_agree (r : Byte) : setNZ v r &&& 0xC7 = setNZ w r &&& 0xC7 := by
  rw [setNZ_eq, setNZ_eq]
  exact withBits_agree h _ _

theorem setCNZ_agree (c : Bool) (r : Byte) : setCNZ v c r &&& 0xC7 = setCNZ w c r &&& 0xC7 := by
  rw [setCNZ_eq, setCNZ_eq]
  exact withBits_agree h _ _

theorem compareStatus_agree (r m : Byte) : compareStatus v r m &&& 0xC7 = compareStatus w r m &&& 0xC7 := by
  rw [compareStatus_eq, compareStatus_eq]
  exact withBits_agree h _ _

theorem bitStatus_agree (a m : Byte) : bitStatus v a m &&& 0xC7 = bitStatus w a m &&& 0xC7 := by
  rw [bitStatus_eq, bitStatus_eq]
  exact withBits_agree h _ _

theorem setFlag_agree (f : Flag) (on : Bool) : setFlag v f on &&& 0xC7 = setFlag w f on &&& 0xC7 := by
  rw [setFlag_eq, setFlag_eq]
  exact withBits_agree h _ _

/-- The flags other than B, U and D read alike. -/
theorem getFlag_agree {f : Flag} (hf : (0xC7 : Byte).getLsbD f.bit = true) : getFlag v f = getFlag w f := by
  have hbit := congrArg (BitVec.getLsbD · f.bit) h
  simp only [BitVec.getLsbD_and, hf, Bool.and_true] at hbit
  exact hbit

theorem addResult_agree (a m : Byte) : addResult v a m = addResult w a m := by
  rw [addResult, addResult, getFlag_agree h (f := .c) rfl]

theorem rolByte_agree (m : Byte) :
    (rolByte v m).value = (rolByte w m).value ∧ (rolByte v m).status &&& 0xC7 = (rolByte w m).status &&& 0xC7 := by
  simp only [rolByte, getFlag_agree h (f := .c) rfl, setCNZ_agree h, and_self]

theorem rorByte_agree (m : Byte) :
    (rorByte v m).value = (rorByte w m).value ∧ (rorByte v m).status &&& 0xC7 = (rorByte w m).status &&& 0xC7 := by
  simp only [rorByte, getFlag_agree h (f := .c) rfl, setCNZ_agree h, and_self]

end

/-- ADC reads C of STATUS and no other bit (43_arithmetic_logic R160, R177). -/
theorem addStatus_agree {s : State} {st : Byte} (h : st &&& 0xC7 = s.status &&& 0xC7) (m : Byte) :
    addStatus st s.a m &&& 0xC7 = addStatus s.status s.a m &&& 0xC7 := by
  have hsum : adcSum (s.setStatus st) m = adcSum s m := by
    simp only [adcSum, flagNat, State.setStatus_a, State.setStatus_status, getFlag_agree h (f := .c) rfl]
  have hst : addStatus st s.a m = adcStatus (s.setStatus st) m := addStatus_eq (s.setStatus st) m
  rw [hst, addStatus_eq, adcStatus, hsum]
  exact withBits_agree h _ _

theorem branchTest_flag {o : Op} {f : Flag} {b : Bool} (h : branchTest o = some (f, b)) :
    (0xC7 : Byte).getLsbD f.bit = true := by
  cases o <;> cases h <;> rfl

theorem branch_setStatus (c : Bool) (s : State) {st : Byte} (h : st &&& 0xC7 = s.status &&& 0xC7) :
    (branch c s).1.SameButBUD (branch c (s.setStatus st)).1 := by
  rw [branch_eq c s, branch_eq c (s.setStatus st)]
  exact ⟨rfl, h⟩

/-- On an immediate operand: the flags an operation computes agree, and the carry is all it reads of STATUS. -/
theorem operation_imm_setStatus {o : Op} (hphp : o ≠ .php) (hbrk : o ≠ .brk) (hbranch : branchTest o = none) (v : Byte)
    (s : State) {st : Byte} (h : st &&& 0xC7 = s.status &&& 0xC7) :
    (operationOf o (.imm v) s).1.SameButBUD (operationOf o (.imm v) (s.setStatus st)).1 := by
  cases o with
  | adc | sbc =>
    exact ⟨congrArg (fun r => ((s.setFetched v).setA r).setStatus _) (addResult_agree h s.a _), addStatus_agree h _⟩
  | and | ora | eor | lda | ldx | ldy | tax | tay | txa | tya | tsx | pla | inc | dec | inx | iny | dex | dey =>
    exact ⟨rfl, setNZ_agree h _⟩
  | cmp | cpx | cpy => exact ⟨rfl, compareStatus_agree h _ _⟩
  | asl | lsr => exact ⟨rfl, setCNZ_agree h _ _⟩
  | rol =>
    obtain ⟨hvalue, hstatus⟩ := rolByte_agree h v
    exact ⟨congrArg (fun r => ((s.setFetched v).write s.addrAbs r).setStatus _) hvalue, hstatus⟩
  | ror =>
    obtain ⟨hvalue, hstatus⟩ := rorByte_agree h v
    exact ⟨congrArg (fun r => ((s.setFetched v).write s.addrAbs r).setStatus _) hvalue, hstatus⟩
  | bit => exact ⟨rfl, bitStatus_agree h _ _⟩
  | clc | sec => exact ⟨rfl, setFlag_agree h .c _⟩
  | cli | sei => exact ⟨rfl, setFlag_agree h .i _⟩
  | cld | sed => exact ⟨rfl, setFlag_agree h .d _⟩
  | clv => exact ⟨rfl, setFlag_agree h .v _⟩
  | plp | rti => exact ⟨rfl, rfl⟩
  | sta | stx | sty | txs | pha | jmp | jsr | rts | nop | illegal => exact ⟨rfl, h⟩
  | php => exact absurd rfl hphp
  | brk => exact absurd rfl hbrk
  | bcc | bcs | beq | bmi | bne | bpl | bvc | bvs => cases hbranch

/-- In the accumulator form of a shift the same holds of the byte that goes to A. -/
theorem operation_acc_setStatus {o : Op} (hshift : isShift o = true) (s : State) {st : Byte}
    (h : st &&& 0xC7 = s.status &&& 0xC7) :
    (operationOf o .acc s).1.SameButBUD (operationOf o .acc (s.setStatus st)).1 := by
  cases o with
  | asl | lsr => exact ⟨rfl, setCNZ_agree h _ _⟩
  | rol =>
    obtain ⟨hvalue, hstatus⟩ := rolByte_agree h s.fetched
    exact ⟨congrArg (fun r => (s.setA r).setStatus _) hvalue, hstatus⟩
  | ror =>
    obtain ⟨hvalue, hstatus⟩ := rorByte_agree h s.fetched
    exact ⟨congrArg (fun r => (s.setA r).setStatus _) hvalue, hstatus⟩
  | _ => cases hshift

theorem fetchOperand_setStatus (s : State) (st : Byte) (m : Mode) :
    ((s.setStatus st).fetchOperand m).2 = (s.fetchOperand m).2 := by
  cases m <;> rfl

/-- Every operation but PHP and BRK, in every mode. -/
theorem operation_setStatus {o : Op} (hphp : o ≠ .php) (hbrk : o ≠ .brk) (m : Mode) (s : State) {st : Byte}
    (h : st &&& 0xC7 = s.status &&& 0xC7) :
    (operationOf o m s).1.SameButBUD (operationOf o m (s.setStatus st)).1 := by
  cases hb : branchTest o with
  | some p =>
    rw [operationOf_branch hb, operationOf_branch hb, State.setStatus_status, getFlag_agree h (branchTest_flag hb)]
    exact branch_setStatus _ s h
  | none =>
    by_cases hacc : isShift o = true ∧ m = .acc
    · obtain ⟨hshift, rfl⟩ := hacc
      exact operation_acc_setStatus hshift s h
    · rw [operationOf_imm hacc, operationOf_imm hacc, fetchOperand_setStatus]
      exact operation_imm_setStatus hphp hbrk hb _ s h

/-- Resolve does not read STATUS (41_addressing_modes R121 to R134). -/
theorem resolved_setStatus (s : State) (st opcode base : Byte) (m : Mode) :
    (s.setStatus st).resolved opcode base m = (s.resolved opcode base m).setStatus st := by
  cases m <;> rfl

theorem crosses_setStatus (s : State) (st : Byte) (m : Mode) : (s.setStatus st).crosses m = s.crosses m := by
  cases m <;> rfl

theorem operated_setStatus {i : Instr} (hphp : i.entry.op ≠ .php) (hbrk : i.entry.op ≠ .brk) (s : State) {st : Byte}
    (h : st &&& 0xC7 = s.status &&& 0xC7) :
    (s.operated i).1.SameButBUD ((s.setStatus st).operated i).1 := by
  rw [State.operated, State.operated, resolved_setStatus]
  exact operation_setStatus hphp hbrk _ _ h

theorem cyclesAfter_setStatus {i : Instr} {s : State} {st : Byte}
    (h : (s.operated i).1.SameButBUD ((s.setStatus st).operated i).1) :
    (s.setStatus st).cyclesAfter i = s.cyclesAfter i := by
  obtain ⟨hsame, -⟩ := h
  have hcycles : ((s.setStatus st).operated i).1.cycles = (s.operated i).1.cycles := by
    rw [hsame]
    rfl
  rw [State.cyclesAfter, State.cyclesAfter, hcycles, crosses_setStatus]

/-- Settles O60: neither Resolve nor the operation reads B, U or D, so the two runs differ in those bits only. -/
theorem decimalBreakUnusedDecideNothing : Obligations.DecimalBreakUnusedDecideNothing := by
  intro i s st hphp hbrk hst
  have hsame := operated_setStatus hphp hbrk s ((xor_and_eq_zero_iff st s.status 0xC7).mp hst)
  refine ⟨_, _, exec_eq_operated i s, exec_eq_operated i (s.setStatus st), ?_, ?_⟩
  · rw [cyclesAfter_setStatus hsame]
    exact congrArg (State.setCycles · (s.cyclesAfter i)) hsame.1
  · exact (xor_and_eq_zero_iff _ _ 0xC7).mpr hsame.2

end Sys2Proof.Machine
end

section
/-! What an instruction leaves of memory: at most the byte at its effective address or those it pushes change
(20_memory R52, R53, R63, 46_stack R210). -/

namespace Sys2Proof.Machine

/-- Settles O23: the rule of the memory list is that of the state. -/
theorem writeChangesOneByte : Obligations.WriteChangesOneByte :=
  fun s addr other v => Memory.read_write s.mem addr other v

theorem State.read_write_of_ne {addr other : Word} (h : other ≠ addr) (s : State) (v : Byte) :
    (s.write addr v).read other = s.read other :=
  (writeChangesOneByte s addr other v).trans (if_neg h)

/-- A push changes no byte but the one SP designates (46_stack R210). -/
theorem State.read_push_of_ne {s : State} {addr : Word} (h : addr ≠ stackAddr s.sp) (v : Byte) :
    (s.push v).read addr = s.read addr :=
  State.read_write_of_ne h s v

/-- Pushing a word changes no byte but the two at SP and SP - 1 (20_memory R54). -/
theorem State.read_pushWord_of_ne {s : State} {addr : Word} (h0 : addr ≠ stackAddr s.sp)
    (h1 : addr ≠ stackAddr (s.sp - 1)) (w : Word) : (s.pushWord w).read addr = s.read addr :=
  (State.read_push_of_ne h1 (loByte w)).trans (State.read_push_of_ne h0 (hiByte w))

/-- BRK's entry changes no byte but the three at SP, SP - 1 and SP - 2 (48_system R240). -/
theorem State.read_brkEntry_of_ne {s : State} {addr : Word} (h0 : addr ≠ stackAddr s.sp)
    (h1 : addr ≠ stackAddr (s.sp - 1)) (h2 : addr ≠ stackAddr (s.sp - 2)) : s.brkEntry.read addr = s.read addr := by
  rw [← byte_sub_one_sub_one] at h2
  exact (State.read_push_of_ne h2 (s.status ||| 0x30)).trans (State.read_pushWord_of_ne h0 h1 s.pc)

/-- An operation that stores at no effective address and pushes nothing leaves memory as it was (20_memory R53). -/
theorem operation_mem {o : Op} {m : Mode} (hstore : (storesInEveryMode o || (isShift o && m != .acc)) = false)
    (hpush : pushCount o = 0) (s : State) : (operationOf o m s).1.mem = s.mem := by
  cases o with
  | sta | stx | sty | inc | dec => cases hstore
  | pha | php | jsr | brk => cases hpush
  | asl | lsr | rol | ror =>
    obtain rfl : m = .acc := by simpa [storesInEveryMode, isShift] using hstore
    rfl
  | adc | sbc | and | ora | eor | cmp | cpx | cpy | bit | lda | ldx | ldy => exact State.fetchOperand_mem s m
  | bcc | bcs | beq | bmi | bne | bpl | bvc | bvs => exact branch_mem _ s
  | clc | cld | cli | clv | sec | sed | sei | dex | dey | inx | iny | tax | tay | tsx | txa | txs | tya | pla | plp | jmp
  | rts | rti | nop | illegal => rfl

/-- A shift's operand fetch and write back in a memory form write one byte, at `addr_abs` (44_shift_rotate). -/
theorem State.writeBack_fetchOperand_mem {m : Mode} (h : m ≠ .acc) (s : State) (r : Byte) :
    ((s.fetchOperand m).1.writeBack m r).mem = Memory.write s.mem s.addrAbs r := by
  rw [State.writeBack_mem, if_neg h, State.fetchOperand_mem, State.fetchOperand_addrAbs]

/-- A store, INC, DEC or memory shift writes one byte, at `addr_abs` (20_memory R53). -/
theorem operation_mem_of_stores {o : Op} {m : Mode} (h : (storesInEveryMode o || (isShift o && m != .acc)) = true)
    (s : State) : ∃ v, (operationOf o m s).1.mem = Memory.write s.mem s.addrAbs v := by
  cases o with
  | sta | stx | sty => exact ⟨_, rfl⟩
  | inc | dec => exact ⟨_, congrArg (Memory.write · s.addrAbs _) (State.fetchOperand_mem s m)⟩
  | asl | lsr | rol | ror =>
    have hm : m ≠ .acc := by simpa [storesInEveryMode, isShift] using h
    exact ⟨_, State.writeBack_fetchOperand_mem hm s _⟩
  | _ => cases h

/-- An operation that stores at no effective address changes no byte but those it pushes (46_stack R210). -/
theorem read_operation_of_ne {o : Op} {m : Mode} {s : State} {addr : Word}
    (hstore : (storesInEveryMode o || (isShift o && m != .acc)) = false)
    (h : ∀ k, k < pushCount o → addr ≠ stackAddr (s.sp - BitVec.ofNat 8 k)) :
    (operationOf o m s).1.read addr = s.read addr := by
  have h0 (hk : 0 < pushCount o) : addr ≠ stackAddr s.sp := by simpa using h 0 hk
  cases o with
  | pha | php => exact State.read_push_of_ne (h0 (by decide)) _
  | jsr => exact State.read_pushWord_of_ne (h0 (by decide)) (h 1 (by decide)) _
  | brk =>
    exact State.read_brkEntry_of_ne (s := s.setPc (s.pc + 1)) (h0 (by decide)) (h 1 (by decide)) (h 2 (by decide))
  | _ => exact congrArg (Memory.read · addr) (operation_mem hstore rfl s)

/-- No instruction that stores at its effective address has the mode IMM (30_encoding R73). -/
theorem entry_mode_ne_imm {i : Instr} (h : storesAtEA i = true) (v : Byte) : i.entry.mode ≠ .imm v := by
  cases i <;> cases h <;> exact Mode.noConfusion

/-- Settles O58: the operation writes at the address Resolve left in `addr_abs`, that of the state before. -/
theorem storesLeaveOtherBytes : Obligations.StoresLeaveOtherBytes := by
  intro i s t h hstore addr haddr
  obtain ⟨v, hv⟩ := operation_mem_of_stores hstore (s.resolved i.entry.opcode i.entry.base i.entry.mode)
  rw [← ea_setPc s (s.pc + 1) _ (entry_mode_ne_imm hstore)] at haddr
  rw [exec_operated h]
  exact (congrArg (Memory.read · addr) hv).trans (State.read_write_of_ne haddr s v)

/-- Settles O59: SP is the same before and after Resolve, so the operation pushes where the statement says. -/
theorem pushesLeaveOtherBytes : Obligations.PushesLeaveOtherBytes := by
  intro i s t h hstore addr haddr
  rw [exec_operated h]
  exact read_operation_of_ne (s := s.resolved i.entry.opcode i.entry.base i.entry.mode) hstore haddr

/-- Settles O57: the memory Resolve leaves is that of the state before, and the operation keeps it. -/
theorem nonStoringLeaveMemory : Obligations.NonStoringLeaveMemory := by
  intro i s t h hstore hpush addr
  rw [exec_operated h]
  exact congrArg (Memory.read · addr)
    (operation_mem hstore hpush (s.resolved i.entry.opcode i.entry.base i.entry.mode))

end Sys2Proof.Machine
end

section
/-! What a row of the opcode map delivers, and which instructions the rows deliver: the well-formed ones, each by the row of
its opcode (30_encoding R70 to R76). -/

namespace Sys2Proof

/-- The instruction is one of those the row delivers, for the operand it reads if any (30_encoding R70, R71). -/
def Row.Delivers (i : Instr) : Row → Prop
  | .whole j => j = i
  | .withByte f => ∃ v, f v = i
  | .withWord f => ∃ w, f w = i

theorem Row.Reads.opcode {b : Byte} {r : Row} {i : Instr} (hr : r.Reads b) (hi : r.Delivers i) : i.entry.opcode = b := by
  cases r with
  | whole j => exact hi ▸ hr.1
  | withByte f =>
    obtain ⟨v, rfl⟩ := hi
    exact (hr v).1
  | withWord f =>
    obtain ⟨w, rfl⟩ := hi
    exact (hr w).1

theorem Row.Legal.instr {r : Row} {i : Instr} (hr : r.Legal) (hi : r.Delivers i) :
    i.entry.op ≠ .illegal ∧ i.entry.mode ≠ .ill ∧ i.wellFormed = true := by
  cases r with
  | whole j => exact hi ▸ hr
  | withByte f =>
    obtain ⟨v, rfl⟩ := hi
    exact hr v
  | withWord f =>
    obtain ⟨w, rfl⟩ := hi
    exact hr w

/-- The 256 opcode bytes in rising order (30_encoding R72). -/
def allBytes : List Byte := (List.finRange 256).map BitVec.ofFin

theorem mem_allBytes (b : Byte) : b ∈ allBytes := List.mem_map_of_mem (List.mem_finRange b.toFin)

theorem nodup_allBytes : allBytes.Nodup := (List.nodup_finRange 256).map fun _ _ => congrArg BitVec.toFin

/-- The listed illegal values are the bytes without a legal row (30_encoding R76). -/
theorem illegalOpcodes_eq_filter : illegalOpcodes = allBytes.filter fun b => (legalRow b).isNone := by decide

theorem nodup_illegalOpcodes : illegalOpcodes.Nodup := illegalOpcodes_eq_filter ▸ nodup_allBytes.filter _

theorem mem_illegalOpcodes_iff (b : Byte) : b ∈ illegalOpcodes ↔ legalRow b = none := by
  simp [illegalOpcodes_eq_filter, mem_allBytes]

theorem wellFormed_illegal_iff {op : Byte} : (Instr.illegal op).wellFormed = true ↔ op ∈ illegalOpcodes :=
  List.contains_iff_mem

theorem rowOf_of_mem_illegalOpcodes {b : Byte} (h : b ∈ illegalOpcodes) : rowOf b = .whole (.illegal b) := by
  rw [rowOf, (mem_illegalOpcodes_iff b).mp h, Option.getD_none]

theorem rowOf_legal {b : Byte} (h : b ∉ illegalOpcodes) : (rowOf b).Legal := by
  obtain ⟨r, hr⟩ := Option.ne_none_iff_exists'.mp (mt (mem_illegalOpcodes_iff b).mpr h)
  rw [rowOf, hr]
  exact (legalRow_reads hr).2

/-- A well-formed instruction is one the row of its opcode delivers (30_encoding R73, R76). -/
theorem rowOf_delivers {i : Instr} (h : i.wellFormed = true) : (rowOf i.entry.opcode).Delivers i := by
  cases i with
  | illegal op =>
    have hrow : rowOf (Instr.illegal op).entry.opcode = .whole (.illegal op) :=
      rowOf_of_mem_illegalOpcodes (wellFormed_illegal_iff.mp h)
    rw [hrow]
    rfl
  | aslAcc | brk | clc | cld | cli | clv | dex | dey | inx | iny | lsrAcc | nop | pha | php | pla | plp | rolAcc | rorAcc
  | rti | rts | sec | sed | sei | tax | tay | tsx | txa | txs | tya => rfl
  | _ =>
    dsimp only [Instr.entry]
    exact ⟨_, rfl⟩

/-- Every instruction a row delivers is well formed (30_encoding R73, R76). -/
theorem wellFormed_of_delivers {b : Byte} {i : Instr} (h : (rowOf b).Delivers i) : i.wellFormed = true := by
  by_cases hb : b ∈ illegalOpcodes
  · rw [rowOf_of_mem_illegalOpcodes hb] at h
    exact h ▸ wellFormed_illegal_iff.mpr hb
  · exact ((rowOf_legal hb).instr h).2.2

end Sys2Proof
end

section
/-! Both directions of the round trip, from one account of what decoding answers (30_encoding R70 to R76). -/

namespace Sys2Proof

/-- Decoding answers an instruction exactly when the row of the opcode byte delivers it and its operand bytes follow. -/
theorem decode_cons_eq_ok_iff {b : Byte} {tail rest : List Byte} {i : Instr} :
    decode (b :: tail) = .ok (i, rest) ↔ (rowOf b).Delivers i ∧ tail = i.entry.mode.operandBytes ++ rest := by
  have hreads := rowOf_reads b
  cases hrow : rowOf b with
  | whole j =>
    rw [hrow] at hreads
    simp only [decode, hrow, Row.Delivers, Except.ok.injEq, Prod.mk.injEq]
    exact and_congr_right fun hi => by rw [← hi, hreads.2, List.nil_append]
  | withByte f =>
    rw [hrow] at hreads
    constructor
    · intro h
      cases tail with
      | nil => simp [decode, hrow] at h
      | cons v tail =>
        simp only [decode, hrow, Except.ok.injEq, Prod.mk.injEq] at h
        obtain ⟨rfl, rfl⟩ := h
        exact ⟨⟨v, rfl⟩, by simp [(hreads v).2]⟩
    · rintro ⟨⟨v, rfl⟩, rfl⟩
      simp [decode, hrow, (hreads v).2]
  | withWord f =>
    rw [hrow] at hreads
    constructor
    · intro h
      match tail with
      | [] | [_] => simp [decode, hrow] at h
      | lo :: hi :: tail =>
        simp only [decode, hrow, Except.ok.injEq, Prod.mk.injEq] at h
        obtain ⟨rfl, rfl⟩ := h
        exact ⟨⟨wordOf hi lo, rfl⟩, by simp [(hreads (wordOf hi lo)).2]⟩
    · rintro ⟨⟨w, rfl⟩, rfl⟩
      simp [decode, hrow, (hreads w).2]

/-- Settles O3: the row of the opcode byte delivers the instruction, and reads just its operand bytes. -/
theorem decodeOfEncode : Obligations.DecodeOfEncode :=
  fun _ _ h => decode_cons_eq_ok_iff.mpr ⟨rowOf_delivers h, rfl⟩

/-- Settles O4: the row of the first byte delivers what is read, so that byte is its opcode. -/
theorem encodeOfDecode : Obligations.EncodeOfDecode := by
  intro bytes rest i h
  cases bytes with
  | nil => cases h
  | cons b tail =>
    obtain ⟨hrow, htail⟩ := decode_cons_eq_ok_iff.mp h
    rw [htail, ← (rowOf_reads b).opcode hrow]
    exact ⟨rfl, wellFormed_of_delivers hrow⟩

/-- Settles O5: an illegal value is the whole encoding of its instruction; any other byte has a legal row, whose
instructions are not the illegal one. -/
theorem everyOpcodeDecodes : Obligations.EveryOpcodeDecodes := by
  refine ⟨rfl, nodup_illegalOpcodes, fun b b1 b2 rest => ⟨fun hb => ?_, fun hb => ?_⟩⟩
  · exact decodeOfEncode (.illegal b) (b1 :: b2 :: rest) (wellFormed_illegal_iff.mpr hb)
  · have hdecode := decode_three b b1 b2 rest
    obtain ⟨hop, hmode, -⟩ := (rowOf_legal hb).instr (decode_cons_eq_ok_iff.mp hdecode).1
    exact ⟨_, _, hdecode, (decodeBytes_reads b b1 b2).1, hop, hmode⟩

end Sys2Proof
end

section
/-! The opcode byte fixes the entry of the opcode map, and the map's 151 entries (30_encoding R72, R73, R75, R77). -/

namespace Sys2Proof

/-- The entry of an instruction as the opcode map lists it, its operand blank (30_encoding R73). -/
def Instr.mapEntry (i : Instr) : MapEntry := (i.entry.opcode, i.entry.op, i.entry.mode.blank, i.entry.base)

/-- The entry of a well-formed instruction is that of its opcode byte with blank operand bytes: the operand has no part in
it (30_encoding R72). -/
theorem mapEntry_eq_blank {i : Instr} (h : i.wellFormed = true) :
    i.mapEntry = (decodeBytes i.entry.opcode 0 0).mapEntry := by
  cases i with
  | illegal op =>
    have hrow : rowOf op = .whole (.illegal op) := rowOf_of_mem_illegalOpcodes (wellFormed_illegal_iff.mp h)
    have hblank : decodeBytes op 0 0 = .illegal op := by rw [decodeBytes, hrow]
    exact congrArg Instr.mapEntry hblank.symm
  | _ =>
    dsimp only [Instr.entry]
    rfl

/-- The opcode map lists the entry of each byte that has a legal row, and no other (30_encoding R73). -/
theorem specMap_eq_map_filter :
    specMap = (allBytes.filter fun b => (legalRow b).isSome).map fun b => (decodeBytes b 0 0).mapEntry := by
  decide

theorem mapEntry_decodeBytes_blank {e : MapEntry} (he : e ∈ specMap) : (decodeBytes e.1 0 0).mapEntry = e := by
  rw [specMap_eq_map_filter] at he
  obtain ⟨b, -, rfl⟩ := List.mem_map.mp he
  exact congrArg (fun op => (decodeBytes op 0 0).mapEntry) (decodeBytes_reads b 0 0).1

theorem Mode.length_operandBytes_blank (m : Mode) : m.blank.operandBytes.length = m.operandBytes.length := by
  cases m <;> rfl

/-- Settles O2: the instruction read is well formed and has the entry's opcode byte, so its entry is the listed one. -/
theorem opcodeMapEntries : Obligations.OpcodeMapEntries := by
  refine ⟨rfl, fun e he b1 b2 rest => ⟨decodeBytes e.1 b1 b2, ?_⟩⟩
  have hdecode := decode_three e.1 b1 b2 rest
  obtain ⟨hrow, htail⟩ := decode_cons_eq_ok_iff.mp hdecode
  have hopcode := (rowOf_reads e.1).opcode hrow
  have hentry : (decodeBytes e.1 b1 b2).mapEntry = e := by
    rw [mapEntry_eq_blank (wellFormed_of_delivers hrow), hopcode, mapEntry_decodeBytes_blank he]
  simp only [Instr.mapEntry, Prod.ext_iff] at hentry
  obtain ⟨-, hop, hmode, hbase⟩ := hentry
  rw [← hmode, Mode.length_operandBytes_blank]
  refine ⟨hdecode, hopcode, hop, rfl, hbase, ?_⟩
  exact (List.take_left.symm).trans (congrArg (List.take _) htail.symm)

/-- Settles O6: both entries are that of the one opcode byte, and the mode gives the length. -/
theorem opcodeByteFixesTheEntry : Obligations.OpcodeByteFixesTheEntry := by
  intro i j hi hj h
  have hentry : i.mapEntry = j.mapEntry := by rw [mapEntry_eq_blank hi, mapEntry_eq_blank hj, h]
  simp only [Instr.mapEntry, Prod.mk.injEq] at hentry
  obtain ⟨-, hop, hmode, hbase⟩ := hentry
  have hlength : i.entry.mode.operandBytes.length = j.entry.mode.operandBytes.length := by
    rw [← Mode.length_operandBytes_blank, hmode, Mode.length_operandBytes_blank]
  exact ⟨hmode, hop, hbase, congrArg (· + 1) hlength⟩

/-- Settles O1: each word is read by running the decoder on its bytes. -/
theorem specWordsDecode : Obligations.SpecWordsDecode :=
  ⟨rfl, rfl, rfl, rfl, rfl, rfl, rfl, rfl, rfl, rfl, rfl, rfl⟩

end Sys2Proof
end

section
/-! The execution engine: what `clock` fetches and runs, how the counter drains, that every command completes, and what
`opcode` records (40_execution_engine R100 to R109). -/

namespace Sys2Proof.Machine

/-- What decoding the three bytes at PC answers is what the fetch reads (R101). -/
theorem State.fetchInstr_of_decode {s : State} {i : Instr} {left : List Byte}
    (h : decode [s.read s.pc, s.read (s.pc + 1), s.read (s.pc + 2)] = .ok (i, left)) : s.fetchInstr = i := by
  rw [decode_three] at h
  exact (Prod.mk.inj (Except.ok.inj h)).1

/-- The fetched instruction has the byte at PC as its opcode (R101). -/
theorem State.fetchInstr_opcode (s : State) : s.fetchInstr.entry.opcode = s.read s.pc :=
  (decodeBytes_reads _ _ _).1

@[simp] theorem State.setCommands_fetchInstr (s : State) (l : List Command) :
    (s.setCommands l).fetchInstr = s.fetchInstr := rfl

@[simp] theorem runCommand_clock (s : State) : runCommand .clock s = clock s := rfl

/-- Settles O7: the step is a pulse, and a pulse at 0 runs what it fetches. -/
theorem stepRunsTheDecodedInstruction : Obligations.StepRunsTheDecodedInstruction := by
  intro s i left h0 hdecode
  have hi : s.fetchInstr = i := State.fetchInstr_of_decode hdecode
  refine ⟨fun hnil => ?_, fun rest hcons => ?_⟩
  · rw [step_nil hnil, clock_fetches h0, hi]
  · have h0' : (s.setCommands rest).cycles = 0 := h0
    rw [step_cons hcons, runCommand_clock, clock_fetches h0', State.setCommands_fetchInstr, hi]

/-- Settles O8: the step is a pulse, and a pulse at another count counts down. -/
theorem drainingPulseOnlyCountsDown : Obligations.DrainingPulseOnlyCountsDown := by
  refine fun s hne => ⟨fun hnil => ?_, fun rest hcons => ?_⟩
  · exact (step_nil hnil).trans (clock_drains hne)
  · exact (step_cons hcons).trans (clock_drains (s := s.setCommands rest) hne)

/-- A run whose first step answers a next state goes on from that state. -/
theorem run_succ_of_step {M : Host.Core} {s t : M.State} (h : M.step s = .next t) (k : Nat) :
    M.run (k + 1) s = M.run k t := by
  rw [Host.Core.run, h]

/-- With no command listed, as many steps as the counter says empty it and change nothing else (R104, R107). -/
theorem run_drains (k : Nat) {s : State} (hk : s.cycles.toNat = k) (hnil : s.commands = []) :
    core.run k s = .next (s.setCycles 0) := by
  induction k generalizing s with
  | zero =>
    have h0 : s.cycles = 0 := BitVec.eq_of_toNat_eq hk
    rw [← h0]
    rfl
  | succ k ih =>
    have hne : s.cycles ≠ 0 := fun h0 => by simp [h0] at hk
    have hcount : (s.setCycles (s.cycles - 1)).cycles.toNat = k := by
      rw [State.setCycles_cycles]
      bv_omega
    have hstep : step s = .next (s.setCycles (s.cycles - 1)) := (drainingPulseOnlyCountsDown s hne).1 hnil
    exact (run_succ_of_step (M := core) hstep k).trans (ih hcount hnil)

/-- Settles O9: an instruction leaves the list of commands empty, so the steps after it drain the counter. -/
theorem remainingPulsesDrain : Obligations.RemainingPulsesDrain := by
  intro i s t hnil h
  obtain ⟨-, -, -, -, hcommands⟩ := onlyListedRegistersChange i s t h
  exact run_drains _ rfl (hcommands.trans hnil)

/-- A pulse completes, whether it fetches or drains; fetching, it runs whatever byte is at PC (R108). -/
theorem clock_completes (s : State) : ∃ t : State, clock s = .next t := by
  by_cases h0 : s.cycles = 0
  · exact ⟨_, (clock_fetches h0).trans (exec_eq_operated _ _)⟩
  · exact ⟨_, clock_drains h0⟩

/-- Settles O10: every command completes; the four others than `clock` answer a next state by definition. -/
theorem everyStepCompletes : Obligations.EveryStepCompletes := by
  intro s
  rw [step_eq_runCommand]
  cases s.commands.headD .clock with
  | clock => exact clock_completes _
  | reset | irq | nmi | init bus => exact ⟨_, rfl⟩

/-- An instruction records its own opcode byte, and no operation changes the record (R100, R109). -/
theorem exec_opcode {i : Instr} {s t : State} (h : exec i s = .next t) : t.opcode = i.entry.opcode := by
  rw [exec_operated h]
  exact (operation_keeps i.entry.op i.entry.mode (s.resolved i.entry.opcode i.entry.base i.entry.mode)).1

/-- What a pulse leaves in `opcode`: the byte at PC if it fetches, the old one if it drains (R109). -/
theorem clock_opcode {s t : State} (h : clock s = .next t) :
    t.opcode = if s.cycles = 0 then s.read s.pc else s.opcode := by
  by_cases h0 : s.cycles = 0
  · rw [clock_fetches h0] at h
    rw [if_pos h0, exec_opcode h, State.fetchInstr_opcode]
  · rw [clock_drains h0] at h
    rw [if_neg h0, ← Host.Outcome.next.inj h, State.setCycles_opcode]

/-- An `irq()` keeps `opcode`, masked or taken (R109). -/
@[simp] theorem State.irq_opcode (s : State) : s.irq.opcode = s.opcode := by
  rcases State.irq_cases s with ⟨-, hirq⟩ | ⟨-, hirq⟩ <;> rw [hirq]

@[simp] theorem State.nmi_opcode (s : State) : s.nmi.opcode = s.opcode := by rw [State.nmi_eq]

/-- With a command listed first, a step runs it (10_state R43). -/
theorem step_of_head? {s : State} {c : Command} (h : s.commands.head? = some c) :
    step s = runCommand c (s.setCommands s.commands.tail) := by
  rw [step_eq_runCommand, List.headD_eq_head?_getD, h, Option.getD_some]

/-- With `clock()` next, listed or by default, a step is a pulse (10_state R43, log entry 2). -/
theorem step_of_clocks {s : State} (h : s.clocks) : step s = clock (s.setCommands s.commands.tail) := by
  rcases h with hnil | hclock
  · rw [step_eq_runCommand, hnil, List.headD_nil, runCommand_clock]
  · exact step_of_head? hclock

/-- Settles O11: a pulse records or keeps the opcode by its counter, and the three other commands keep it. -/
theorem opcodeIsTheLastFetched : Obligations.OpcodeIsTheLastFetched := by
  intro s t h
  have hpulse (hclocks : s.clocks) : t.opcode = if s.cycles = 0 then s.read s.pc else s.opcode :=
    clock_opcode (s := s.setCommands s.commands.tail) ((step_of_clocks hclocks).symm.trans h)
  have hrun {c : Command} (hhead : s.commands.head? = some c) :
      runCommand c (s.setCommands s.commands.tail) = .next t :=
    (step_of_head? hhead).symm.trans h
  refine ⟨fun hclocks h0 => ?_, fun hclocks h0 => ?_, ?_, rfl⟩
  · rw [hpulse hclocks, if_pos h0]
  · rw [hpulse hclocks, if_neg h0]
  · rintro (hreset | hirq | hnmi)
    · cases hrun hreset
      rfl
    · cases hrun hirq
      exact State.irq_opcode _
    · cases hrun hnmi
      exact State.nmi_opcode _

end Sys2Proof.Machine
end

section
/-! The encodings of an operation, read off the opcode map (30_encoding R73). -/

namespace Sys2Proof

/-- Only the illegal operation has an instruction that no bytes encode. -/
theorem wellFormed_of_op_ne_illegal {i : Instr} (h : i.entry.op ≠ .illegal) : i.wellFormed = true := by
  cases i with
  | illegal op => exact absurd rfl h
  | _ => rfl

/-- The opcode map lists the entries of the instructions of the 56 legal operations, and no other (30_encoding R73). -/
theorem mem_specMap_iff {e : MapEntry} : e ∈ specMap ↔ ∃ i : Instr, i.entry.op ≠ .illegal ∧ i.mapEntry = e := by
  rw [specMap_eq_map_filter, List.mem_map]
  constructor
  · rintro ⟨b, hb, rfl⟩
    have hlegal : b ∉ illegalOpcodes := fun h => by simp [(mem_illegalOpcodes_iff b).mp h] at hb
    have hdelivers := (decode_cons_eq_ok_iff.mp (decode_three b 0 0 [])).1
    exact ⟨decodeBytes b 0 0, ((rowOf_legal hlegal).instr hdelivers).1, rfl⟩
  · rintro ⟨i, hop, rfl⟩
    have hwf := wellFormed_of_op_ne_illegal hop
    have hrow : legalRow i.entry.opcode ≠ none := fun h => by
      have hdelivers := rowOf_delivers hwf
      rw [rowOf_of_mem_illegalOpcodes ((mem_illegalOpcodes_iff _).mpr h)] at hdelivers
      exact hop (hdelivers ▸ rfl)
    refine ⟨i.entry.opcode, List.mem_filter.mpr ⟨mem_allBytes _, ?_⟩, (mapEntry_eq_blank hwf).symm⟩
    exact Option.isSome_iff_ne_none.mpr hrow

/-- The encodings the opcode map lists for an operation: opcode, mode with its operand blank, base cycles. -/
def listedForms (o : Op) : List (Byte × Mode × Byte) :=
  (specMap.filter fun e => e.2.1 == o).map fun e => (e.1, e.2.2)

/-- The encodings of a legal operation are those the opcode map lists for it, in any order (30_encoding R73). -/
theorem formsAre_of_listedForms {o : Op} {forms : List (Byte × Mode × Byte)} (ho : o ≠ .illegal)
    (hsub : forms ⊆ listedForms o) (hsup : listedForms o ⊆ forms) : FormsAre o forms := by
  intro form
  have hlisted : form ∈ listedForms o ↔ (form.1, o, form.2) ∈ specMap := by
    simp only [listedForms, List.mem_map, List.mem_filter, beq_iff_eq]
    constructor
    · rintro ⟨e, ⟨he, rfl⟩, rfl⟩
      exact he
    · exact fun h => ⟨_, ⟨h, rfl⟩, rfl⟩
  calc form ∈ forms ↔ form ∈ listedForms o := ⟨@hsub form, @hsup form⟩
    _ ↔ ∃ i : Instr, i.entry.op ≠ .illegal ∧ i.mapEntry = (form.1, o, form.2) := hlisted.trans mem_specMap_iff
    _ ↔ _ := exists_congr fun i => by
      simp only [Instr.mapEntry, Prod.ext_iff]
      constructor
      · rintro ⟨-, hcode, hop, hrest⟩
        exact ⟨hop, hcode, hrest⟩
      · rintro ⟨hop, hcode, hrest⟩
        exact ⟨hop ▸ ho, hcode, hop, hrest⟩

end Sys2Proof
end

section
/-! Effective addresses as sums of integers, the page-crossing signal, and the two operations that change nothing
(41_addressing_modes R124 to R135, 48_system R242 to R244). -/

namespace Sys2Proof.Machine

/-- Masking an address with 0x00FF keeps it modulo 256 (R124, R125). -/
theorem toNat_and_00FF (w : Word) : (w &&& 0x00FF).toNat = w.toNat % 256 :=
  (BitVec.toNat_and ..).trans (Nat.and_two_pow_sub_one_eq_mod w.toNat 8)

/-- Masking with 0xFF00 gives the start of the page (R129). -/
theorem and_FF00_eq_sub (w : Word) : w &&& 0xFF00 = w - (w &&& 0x00FF) := by
  have hdisjoint : (w &&& 0xFF00) &&& (w &&& 0x00FF) = 0 := by
    rw [BitVec.and_comm w 0x00FF, ← BitVec.and_assoc, BitVec.and_assoc w]
    simp
  have hsum : (w &&& 0xFF00) + (w &&& 0x00FF) = w := by
    rw [BitVec.add_eq_or_of_and_eq_zero _ _ hdisjoint, ← BitVec.and_or_distrib_left]
    exact BitVec.and_allOnes
  exact BitVec.eq_sub_iff_add_eq.mpr hsum

/-- The address of a byte of page zero is the byte's number. -/
theorem zext16_eq_ofNat {p : Byte} {n : Nat} (h : p.toNat = n) : zext16 p = BitVec.ofNat 16 n :=
  h ▸ (BitVec.ofNat_toNat 16 p).symm

/-- The word at a zero-page pointer, the high byte from the next address of page zero (R130, R131). -/
theorem State.toNat_readZP16 (s : State) (p : Byte) :
    (s.readZP16 p).toNat = (s.read (BitVec.ofNat 16 p.toNat)).toNat +
      256 * (s.read (BitVec.ofNat 16 ((p.toNat + 1) % 256))).toNat := by
  rw [State.readZP16, toNat_wordOf, zext16_eq_ofNat (BitVec.toNat_add p 1), zext16_eq_ofNat rfl]
  rfl

/-- The word at an Indirect pointer, whose high byte comes from the same page (R129). -/
theorem State.toNat_readIndirect (s : State) (p : Word) :
    (s.readIndirect p).toNat = (s.read p).toNat +
      256 * (s.read (if p.toNat % 256 = 255 then p - 255 else p + 1)).toNat := by
  have hlast : loByte p = 0xFF ↔ p.toNat % 256 = 255 := by
    rw [← BitVec.toNat_inj, toNat_loByte]
    rfl
  unfold State.readIndirect
  by_cases h : p.toNat % 256 = 255
  · have hpage : p &&& 0x00FF = 255 := BitVec.eq_of_toNat_eq ((toNat_and_00FF p).trans h)
    rw [if_pos (hlast.mpr h), if_pos h, and_FF00_eq_sub, hpage, toNat_wordOf]
  · rw [if_neg (mt hlast.mp h), if_neg h, toNat_wordOf]

/-- An address with an index added wraps at 65536 (R127, R131). -/
theorem toNat_add_zext16 (w : Word) (b : Byte) : (w + zext16 b).toNat = (w.toNat + b.toNat) % 65536 := by
  rw [BitVec.toNat_add, toNat_zext16]

/-- A zero-page address with an index added stays in page zero (R125). -/
theorem toNat_zeroPage_add (b i : Byte) :
    ((zext16 b + zext16 i) &&& 0x00FF).toNat = (b.toNat + i.toNat) % 256 := by
  rw [toNat_and_00FF, toNat_add_zext16, toNat_zext16]
  omega

/-- Settles O29: each mode's formula, with its wrap, from the lemma about its sum or its pointer. -/
theorem effectiveAddresses : Obligations.EffectiveAddresses := by
  intro s b w
  refine ⟨?_, toNat_zeroPage_add b s.x, toNat_zeroPage_add b s.y, rfl, toNat_add_zext16 w s.x, toNat_add_zext16 w s.y,
    s.toNat_readIndirect w, ?_, ?_⟩
  · calc (zext16 b &&& 0x00FF).toNat = b.toNat % 256 := by rw [toNat_and_00FF, toNat_zext16]
      _ = b.toNat := Nat.mod_eq_of_lt b.isLt
  · have hpointer := s.toNat_readZP16 (b + s.x)
    rwa [BitVec.toNat_add, Nat.mod_add_mod] at hpointer
  · rw [← s.toNat_readZP16 b]
    exact toNat_add_zext16 (s.readZP16 b) s.y

/-- Two addresses differ in their high bytes exactly when they lie on different pages (R135). -/
theorem hiByte_bne_iff (v w : Word) : (hiByte v != hiByte w) = true ↔ v.toNat / 256 ≠ w.toNat / 256 :=
  bne_iff_ne.trans (not_congr (hiByte_eq_iff v w))

/-- Settles O30: the three indexed modes compare the pages of address and base; the other modes answer false. -/
theorem pageCrossing : Obligations.PageCrossing := by
  intro s m
  cases m with
  | abx w | aby w => exact (hiByte_bne_iff _ w).trans (by simp)
  | izy b => exact (hiByte_bne_iff _ (s.readZP16 b)).trans (by simp)
  | imp | acc | imm | zp | zpx | zpy | abs | ind | izx | rel | ill => simp [State.crosses]

/-- An instruction whose operation changes nothing and takes no extra cycle leaves what its pulse leaves
(40_execution_engine R100 to R106). -/
theorem exec_eq_advanced {i : Instr} (h : ∀ m s, operationOf i.entry.op m s = (s, false)) (s : State) :
    exec i s = .next (s.advanced i) := by
  rw [exec_eq_pulse, pulse_eq, h, Bool.and_false, ← resolved_setCycles]
  simp [State.resolved]

/-- Settles O53: neither operation changes anything, and each instruction is one byte long. -/
theorem nopAndIllegalChangeNothing : Obligations.NopAndIllegalChangeNothing := by
  refine ⟨formsAre_of_listedForms (by decide) (by decide) (by decide), fun s op => ⟨?_, ?_, ?_⟩⟩
  · exact exec_eq_advanced (i := .nop) (fun _ _ => rfl) s
  · exact exec_eq_advanced (i := .illegal op) (fun _ _ => rfl) s
  · exact ⟨wellFormed_illegal_iff, illegalBaseCycles_range op⟩

end Sys2Proof.Machine
end

section
/-! An instruction that is no branch as its operation on what its pulse leaves, which the statements call advanced
(40_execution_engine R100 to R106). -/

namespace Sys2Proof.Machine

theorem State.fetchOperand_setCycles (s : State) (m : Mode) (c : Byte) :
    (s.setCycles c).fetchOperand m = ((s.fetchOperand m).1.setCycles c, (s.fetchOperand m).2) := by
  cases m <;> rfl

/-- No operation but a branch reads or writes the counter, so it may be set before as well as after (47_control_transfer
R220). The accumulator forms of the shifts apart, the mode matters for the operand only. -/
theorem operationOf_setCycles {o : Op} (h : branchTest o = none) (m : Mode) (s : State) (c : Byte) :
    (operationOf o m (s.setCycles c)).1 = (operationOf o m s).1.setCycles c := by
  by_cases hacc : isShift o = true ∧ m = .acc
  · obtain ⟨hshift, rfl⟩ := hacc
    cases o <;> cases hshift <;> rfl
  · rw [operationOf_imm hacc, operationOf_imm hacc s, State.fetchOperand_setCycles]
    cases o <;> cases h <;> rfl

/-- An instruction that is no branch is its operation on what its pulse leaves, with one pulse more in the counter when e1
and e2 both hold (R105). -/
theorem exec_eq_operation {i : Instr} (h : branchTest i.entry.op = none) (s : State) :
    exec i s = .next (operationOf i.entry.op i.entry.mode ((s.advanced i).setCycles
      (i.entry.base - 1 + (if s.crosses i.entry.mode && eligible i.entry.op then 1 else 0)))).1 := by
  have hcount (e : Byte) : i.entry.base + e - 1 = i.entry.base - 1 + e := by bv_omega
  rw [← resolved_setCycles, operationOf_setCycles h, operationOf_setCycles h, exec_eq_operated, State.cyclesAfter,
    State.operated, operation_cycles _ _ _ h, ← hcount]
  rfl

/-- An instruction that is no branch and has e2 false is its operation on what its pulse leaves (R105). -/
theorem exec_of_not_eligible {i : Instr} {o : Op} (hop : i.entry.op = o) (hbranch : branchTest o = none)
    (heligible : eligible o = false) (s : State) :
    exec i s = .next (operationOf o i.entry.mode (s.advanced i)).1 := by
  subst hop
  rw [exec_eq_operation hbranch, heligible, Bool.and_false, if_neg Bool.false_ne_true, add_zero]
  rfl

theorem branchTest_of_eligible {o : Op} (h : eligible o = true) : branchTest o = none := by
  cases o <;> cases h <;> rfl

theorem isShift_of_eligible {o : Op} (h : eligible o = true) : isShift o = false := by
  cases o <;> cases h <;> rfl

/-- The operand fetch of an instruction gives its operand, and records it in `fetched` (41_addressing_modes R132). -/
theorem State.advanced_fetchOperand (s : State) (i : Instr) :
    (s.advanced i).fetchOperand i.entry.mode = (s.advancedRead i, s.operand i.entry.mode) := by
  rw [State.advancedRead, ← resolved_setCycles, State.fetchOperand_setCycles, resolved_fetchOperand]
  rfl

/-- An operation with e2 true fetches its operand before anything else, so a fetched operand may as well be there already
(R132). -/
theorem operationOf_imm_setFetched {o : Op} (h : eligible o = true) (v : Byte) (s : State) :
    operationOf o (.imm v) (s.setFetched v) = operationOf o (.imm v) s := by
  cases o <;> cases h <;> rfl

/-- An instruction with e2 true is its operation, with its operand as an immediate one, on what its pulse leaves, operand
fetch and page-crossing cycle included (R105, 41_addressing_modes R132). -/
theorem exec_of_eligible {i : Instr} {o : Op} (hop : i.entry.op = o) (h : eligible o = true) (s : State) :
    exec i s = .next (operationOf o (.imm (s.operand i.entry.mode)) (s.advancedEligible i)).1 := by
  subst hop
  have hacc : ¬ (isShift i.entry.op = true ∧ i.entry.mode = .acc) := by
    rw [isShift_of_eligible h]
    exact fun hshift => Bool.false_ne_true hshift.1
  rw [exec_eq_operation (branchTest_of_eligible h), operationOf_imm hacc, State.fetchOperand_setCycles,
    State.advanced_fetchOperand, ← operationOf_imm_setFetched h, h, Bool.and_true]
  rfl

/-- The address an instruction that stores leaves in `addr_abs` is the effective address of the state before. -/
theorem State.advanced_addrAbs {i : Instr} (h : storesAtEA i = true) (s : State) :
    (s.advanced i).addrAbs = s.ea i.entry.mode :=
  ea_setPc s (s.pc + 1) i.entry.mode (entry_mode_ne_imm h)

theorem storesAtEA_of_op {i : Instr} {o : Op} (hop : i.entry.op = o) (h : storesInEveryMode o = true) :
    storesAtEA i = true := by
  rw [storesAtEA, hop, h, Bool.true_or]

end Sys2Proof.Machine
end

section
/-! Loads, stores and transfers: the encodings and the whole next state (42_load_store_transfer R140 to R151). -/

namespace Sys2Proof.Machine

/-- The encodings of a legal operation are those the opcode map lists for it (30_encoding R73). -/
theorem formsAre_of_listedForms_eq {o : Op} {forms : List (Byte × Mode × Byte)} (ho : o ≠ .illegal)
    (h : listedForms o = forms) : FormsAre o forms :=
  h ▸ formsAre_of_listedForms ho (List.Subset.refl _) (List.Subset.refl _)

/-- Settles O25: opLda on what the pulse leaves is the state the statement writes out. -/
theorem ldaLoadsA : Obligations.LdaLoadsA := by
  refine ⟨formsAre_of_listedForms (by decide) (by decide) (by decide), fun i s hop => ?_⟩
  rw [← setNZ_eq]
  exact exec_of_eligible hop rfl s

/-- Settles O26: opLdx and opLdy on what the pulse leaves are the states the statement writes out. -/
theorem ldxLdyLoadTheIndex : Obligations.LdxLdyLoadTheIndex := by
  refine ⟨formsAre_of_listedForms (by decide) (by decide) (by decide),
    formsAre_of_listedForms (by decide) (by decide) (by decide), fun i s => ?_⟩
  simp only [← setNZ_eq]
  exact ⟨fun hop => exec_of_eligible hop rfl s, fun hop => exec_of_eligible hop rfl s⟩

/-- Settles O27: each store writes its register at `addr_abs`, which holds the effective address. -/
theorem storesWriteTheRegister : Obligations.StoresWriteTheRegister := by
  refine ⟨formsAre_of_listedForms (by decide) (by decide) (by decide),
    formsAre_of_listedForms (by decide) (by decide) (by decide),
    formsAre_of_listedForms (by decide) (by decide) (by decide), fun i s => ?_⟩
  refine ⟨fun hop => ?_, fun hop => ?_, fun hop => ?_⟩
  all_goals
    rw [← s.advanced_addrAbs (storesAtEA_of_op hop rfl)]
    exact exec_of_not_eligible hop rfl rfl s

/-- Settles O28: each transfer copies its register on what the pulse leaves; TXS leaves STATUS alone. -/
theorem transfersCopyTheRegister : Obligations.TransfersCopyTheRegister := by
  refine ⟨formsAre_of_listedForms_eq (by decide) rfl, formsAre_of_listedForms_eq (by decide) rfl,
    formsAre_of_listedForms_eq (by decide) rfl, formsAre_of_listedForms_eq (by decide) rfl,
    formsAre_of_listedForms_eq (by decide) rfl, formsAre_of_listedForms_eq (by decide) rfl, fun s => ?_⟩
  simp only [← setNZ_eq]
  exact ⟨exec_of_not_eligible rfl rfl rfl s, exec_of_not_eligible rfl rfl rfl s, exec_of_not_eligible rfl rfl rfl s,
    exec_of_not_eligible rfl rfl rfl s, exec_of_not_eligible rfl rfl rfl s, exec_of_not_eligible rfl rfl rfl s⟩

end Sys2Proof.Machine
end

section
/-! An instruction with e2 false that fetches its operand, as its operation on what its pulse leaves
(40_execution_engine R105, 41_addressing_modes R132). -/

namespace Sys2Proof.Machine

/-- An instruction with e2 false whose operation fetches the operand before anything else is that operation, with the
operand as an immediate one, on what its pulse leaves, operand fetch included (R132). -/
theorem exec_of_fetch {i : Instr} {o : Op} (hop : i.entry.op = o) (hbranch : branchTest o = none)
    (heligible : eligible o = false) (hacc : ¬ (isShift o = true ∧ i.entry.mode = .acc))
    (hfetch : ∀ v s, operationOf o (.imm v) (s.setFetched v) = operationOf o (.imm v) s) (s : State) :
    exec i s = .next (operationOf o (.imm (s.operand i.entry.mode)) (s.advancedRead i)).1 := by
  rw [exec_of_not_eligible hop hbranch heligible, operationOf_imm hacc, s.advanced_fetchOperand, ← hfetch]
  rfl

end Sys2Proof.Machine
end

section
/-! Arithmetic, logic, compare and increment: the encodings and the whole next state (43_arithmetic_logic R160 to
R174). -/

namespace Sys2Proof.Machine

/-- Settles O31: opAdc on what the pulse leaves, with the result and STATUS from the integer sum. -/
theorem adcAdds : Obligations.AdcAdds := by
  refine ⟨formsAre_of_listedForms (by decide) (by decide) (by decide), fun i s hop => ?_⟩
  rw [← addStatus_eq, adcSum, ← addResult_eq]
  exact exec_of_eligible hop rfl s

/-- Settles O32: opSbc adds the complement, so it leaves what opAdc leaves of it. -/
theorem sbcAddsTheComplement : Obligations.SbcAddsTheComplement := by
  refine ⟨formsAre_of_listedForms (by decide) (by decide) (by decide), fun i s hop => ?_⟩
  rw [← addStatus_eq, adcSum, ← addResult_eq]
  exact exec_of_eligible hop rfl s

/-- Settles O34: opAnd, opOra and opEor on what the pulse leaves are the states the statement writes out. -/
theorem logicIntoA : Obligations.LogicIntoA := by
  refine ⟨formsAre_of_listedForms (by decide) (by decide) (by decide),
    formsAre_of_listedForms (by decide) (by decide) (by decide),
    formsAre_of_listedForms (by decide) (by decide) (by decide), fun i s => ?_⟩
  simp only [← setNZ_eq]
  exact ⟨fun hop => exec_of_eligible hop rfl s, fun hop => exec_of_eligible hop rfl s,
    fun hop => exec_of_eligible hop rfl s⟩

/-- Settles O35: the compares write STATUS alone; CMP has e2 true, CPX and CPY fetch with e2 false. -/
theorem comparesSetFlagsOnly : Obligations.ComparesSetFlagsOnly := by
  refine ⟨formsAre_of_listedForms (by decide) (by decide) (by decide),
    formsAre_of_listedForms_eq (by decide) rfl, formsAre_of_listedForms_eq (by decide) rfl, fun i s => ?_⟩
  simp only [← compareStatus_eq]
  exact ⟨fun hop => exec_of_eligible hop rfl s, fun hop => exec_of_fetch hop rfl rfl nofun (fun _ _ => rfl) s,
    fun hop => exec_of_fetch hop rfl rfl nofun (fun _ _ => rfl) s⟩

/-- Settles O36: opBit on what the pulse and the operand fetch leave writes STATUS alone. -/
theorem bitTestsMemory : Obligations.BitTestsMemory := by
  refine ⟨formsAre_of_listedForms_eq (by decide) rfl, fun i s hop => ?_⟩
  simp only [← bitStatus_eq]
  exact exec_of_fetch hop rfl rfl nofun (fun _ _ => rfl) s

/-- Settles O37: INC and DEC write at `addr_abs`, which holds the effective address. -/
theorem incDecMemory : Obligations.IncDecMemory := by
  refine ⟨formsAre_of_listedForms (by decide) (by decide) (by decide),
    formsAre_of_listedForms (by decide) (by decide) (by decide), fun i s => ?_⟩
  simp only [← setNZ_eq]
  refine ⟨fun hop => ?_, fun hop => ?_⟩
  all_goals
    rw [← s.advanced_addrAbs (storesAtEA_of_op hop rfl)]
    exact exec_of_fetch hop rfl rfl nofun (fun _ _ => rfl) s

/-- Settles O38: each count writes its index register and Z and N on what the pulse leaves. -/
theorem incDecRegister : Obligations.IncDecRegister := by
  refine ⟨formsAre_of_listedForms_eq (by decide) rfl, formsAre_of_listedForms_eq (by decide) rfl,
    formsAre_of_listedForms_eq (by decide) rfl, formsAre_of_listedForms_eq (by decide) rfl, fun s => ?_⟩
  simp only [← setNZ_eq]
  exact ⟨exec_of_not_eligible rfl rfl rfl s, exec_of_not_eligible rfl rfl rfl s, exec_of_not_eligible rfl rfl rfl s,
    exec_of_not_eligible rfl rfl rfl s⟩

end Sys2Proof.Machine
end

section
/-! ADC and SBC as facts about unsigned and signed integers (43_arithmetic_logic R176). -/

namespace Sys2Proof.Machine

/-- A flag after `set_flag`: the one written, or as it was (10_state R26). -/
theorem getFlag_setFlag (st : Byte) (f g : Flag) (on : Bool) :
    getFlag (setFlag st f on) g = if g = f then on else getFlag st g := by
  rw [getFlag, getLsbD_setFlag _ _ _ _ g.bit_lt, getFlag]
  simp only [Flag.bit_inj]

theorem flagNat_le_one (st : Byte) (f : Flag) : flagNat st f ≤ 1 := by
  unfold flagNat
  split <;> decide

/-- Bit 7 of a byte is its sign bit. -/
theorem and_0x80_bne_zero (v : Byte) : (v &&& 0x80 != 0x00) = v.msb := by
  have hbit : v &&& 0x80 = if v.getLsbD 7 then 0x80 else 0x00 := BitVec.and_twoPow v 7
  rw [hbit, BitVec.msb_eq_getLsbD_last]
  cases v.getLsbD 7 <;> rfl

/-- C after ADC, from the integer sum (R160). -/
theorem getFlag_c_adcStatus (s : State) (m : Byte) : getFlag (adcStatus s m) .c = true ↔ adcSum s m > 255 := by
  rw [← addStatus_eq]
  simp [addStatus, getFlag_setFlag, toNat_wideSum, adcSum, flagNat]

/-- V after ADC: two operands of one sign have a result of the other (R160). -/
theorem getFlag_v_adcStatus (s : State) (m : Byte) :
    getFlag (adcStatus s m) .v = true ↔ s.a.msb = m.msb ∧ (BitVec.ofNat 8 (adcSum s m)).msb ≠ s.a.msb := by
  rw [← addStatus_eq, addStatus, getFlag_setFlag, if_pos rfl, and_0x80_bne_zero]
  rw [← addResult, addResult_eq, ← adcSum]
  simp only [BitVec.msb_and, BitVec.msb_not, BitVec.msb_xor]
  cases s.a.msb <;> cases m.msb <;> simp

/-- Two bytes of one sign and a carry have a sum of the other sign exactly when the signed sum is no signed byte. -/
theorem msb_ofNat_add_ne_iff (a m : Byte) {c : Nat} (hc : c ≤ 1) :
    (a.msb = m.msb ∧ (BitVec.ofNat 8 (a.toNat + m.toNat + c)).msb ≠ a.msb) ↔
      a.toInt + m.toInt + c < -128 ∨ a.toInt + m.toInt + c > 127 := by
  have ha := a.isLt
  have hm := m.isLt
  simp only [BitVec.msb_eq_decide, BitVec.toInt_eq_toNat_cond, BitVec.toNat_ofNat, ne_eq, decide_eq_decide]
  split <;> split <;> omega

/-- The complement of a byte as an unsigned integer. -/
theorem toNat_xor_0xFF (m : Byte) : (m ^^^ 0xFF).toNat = 255 - m.toNat := by
  rw [show m ^^^ 0xFF = ~~~ m from BitVec.xor_allOnes, BitVec.toNat_not]

/-- The complement of a byte as a signed integer. -/
theorem toInt_xor_0xFF (m : Byte) : (m ^^^ 0xFF).toInt = - 1 - m.toInt := by
  have hm := m.isLt
  simp only [BitVec.toInt_eq_toNat_cond, toNat_xor_0xFF]
  split <;> split <;> omega

/-- V after ADC is signed overflow (R176). -/
theorem getFlag_v_adcStatus_iff_overflow (s : State) (m : Byte) :
    getFlag (adcStatus s m) .v = true ↔
      s.a.toInt + m.toInt + flagNat s.status .c < -128 ∨ s.a.toInt + m.toInt + flagNat s.status .c > 127 :=
  (getFlag_v_adcStatus s m).trans (msb_ofNat_add_ne_iff s.a m (flagNat_le_one _ _))

/-- Settles O33: ADC by the integer sum, and SBC as ADC of the complement, which is 255 - M unsigned and -1 - M signed. -/
theorem carryAndOverflowAreIntegerFacts : Obligations.CarryAndOverflowAreIntegerFacts := by
  intro i s t h m c
  constructor
  · intro hop
    cases (adcAdds.2 i s hop).symm.trans h
    exact ⟨BitVec.toNat_ofNat _ _, getFlag_c_adcStatus s m, getFlag_v_adcStatus_iff_overflow s m⟩
  · intro hop
    cases (sbcAddsTheComplement.2 i s hop).symm.trans h
    have hm := m.isLt
    have hsum : adcSum s (m ^^^ 0xFF) = s.a.toNat + (255 - m.toNat) + c := by rw [adcSum, toNat_xor_0xFF]
    refine ⟨?_, (getFlag_c_adcStatus _ _).trans ?_, (getFlag_v_adcStatus_iff_overflow _ _).trans ?_⟩
    · show ((BitVec.ofNat 8 (adcSum s (m ^^^ 0xFF))).toNat : Int) = _
      rw [BitVec.toNat_ofNat, hsum]
      omega
    · rw [hsum]
      omega
    · have hdiff : s.a.toInt + (m ^^^ 0xFF).toInt + c = s.a.toInt - m.toInt - (1 - c) := by
        rw [toInt_xor_0xFF]
        ring
      rw [← hdiff]

end Sys2Proof.Machine
end

section
/-! Shifts and rotates: the four as one operation with a function of the operand, that function by integers and masks,
the encodings and the whole next state (44_shift_rotate R190 to R193). -/

namespace Sys2Proof.Machine

/-- The operation of a shift or rotate that makes of STATUS and its operand what `f` gives: the operand is fetched, the
result written back, STATUS set (44_shift_rotate). -/
def shiftOperation (f : Byte → Byte → Flagged) : Operation := fun m s =>
  let r := f s.status (s.fetchOperand m).2
  (((s.fetchOperand m).1.writeBack m r.value).setStatus r.status, false)

/-- The write back by mode: to A in the accumulator form, else to the byte at `addr_abs` (44_shift_rotate). -/
theorem State.writeBack_eq (s : State) (m : Mode) (r : Byte) :
    s.writeBack m r = if m = .acc then s.setA r else s.write s.addrAbs r := by
  cases m <;> rfl

theorem branchTest_of_isShift {o : Op} (h : isShift o = true) : branchTest o = none := by
  cases o <;> cases h <;> rfl

theorem eligible_of_isShift {o : Op} (h : isShift o = true) : eligible o = false := by
  cases o <;> cases h <;> rfl

theorem storesAtEA_of_isShift {i : Instr} (h : isShift i.entry.op = true) (hacc : i.entry.mode ≠ .acc) :
    storesAtEA i = true := by
  simp [storesAtEA, h, hacc]

/-- A shift or rotate replaces A in the accumulator form, else the byte at the effective address, and writes STATUS. -/
theorem exec_shift {i : Instr} {o : Op} {f : Byte → Byte → Flagged} {s : State} {r : Flagged} (hop : i.entry.op = o)
    (hshift : isShift o = true) (hf : operationOf o = shiftOperation f)
    (hr : f s.status (s.operand i.entry.mode) = r) :
    exec i s = .next (
      if i.entry.mode = .acc then { s.advancedRead i with a := r.value, status := r.status }
      else { s.advancedRead i with mem := Memory.write s.mem (s.ea i.entry.mode) r.value, status := r.status }) := by
  subst hop hr
  rw [exec_of_not_eligible rfl (branchTest_of_isShift hshift) (eligible_of_isShift hshift), hf, shiftOperation,
    s.advanced_fetchOperand, State.writeBack_eq]
  by_cases hacc : i.entry.mode = .acc
  · rw [if_pos hacc, if_pos hacc]
    rfl
  · rw [if_neg hacc, if_neg hacc, ← s.advanced_addrAbs (storesAtEA_of_isShift hshift hacc)]
    rfl

theorem aslByte_eq (st m : Byte) : aslByte st m = ⟨m <<< 1, cnzStatus st (m.getLsbD 7) (m <<< 1)⟩ := by
  rw [aslByte, setCNZ_eq]

theorem lsrByte_eq (st m : Byte) : lsrByte st m = ⟨m >>> 1, cnzStatus st (m.getLsbD 0) (m >>> 1)⟩ := by
  rw [lsrByte, setCNZ_eq]

theorem shiftLeft_one_eq_ofNat (m : Byte) : m <<< 1 = BitVec.ofNat 8 (2 * m.toNat) := by
  apply BitVec.eq_of_toNat_eq
  rw [BitVec.toNat_shiftLeft, BitVec.toNat_ofNat, Nat.shiftLeft_eq, Nat.mul_comm]

theorem ushiftRight_one_eq_ofNat (m : Byte) : m >>> 1 = BitVec.ofNat 8 (m.toNat / 2) := by
  apply BitVec.eq_of_toNat_eq
  have hlt : m.toNat / 2 < 2 ^ 8 := (Nat.div_le_self _ _).trans_lt m.isLt
  rw [BitVec.toNat_ushiftRight, BitVec.toNat_ofNat, Nat.mod_eq_of_lt hlt, Nat.shiftRight_eq_div_pow, pow_one]

/-- The carry a rotate lets in, at bit 0 or at bit 7, as a number. -/
theorem carryBit_eq_ofNat (st : Byte) (n : Nat) :
    (if getFlag st .c then BitVec.ofNat 8 n else 0x00) = BitVec.ofNat 8 (n * flagNat st .c) := by
  unfold flagNat
  split
  · rw [Nat.mul_one]
  · rfl

/-- The old carry enters at bit 0, which the shift leaves clear, so ORing it in adds it (R192). -/
theorem shiftLeft_or_carry (st m : Byte) :
    (m <<< 1 ||| if getFlag st .c then 0x01 else 0x00) = BitVec.ofNat 8 (2 * m.toNat + flagNat st .c) := by
  have hcarry : flagNat st .c < 2 ^ 1 := Nat.lt_succ_of_le (flagNat_le_one st .c)
  calc _ = BitVec.ofNat 8 (2 * m.toNat) ||| BitVec.ofNat 8 (1 * flagNat st .c) :=
        congrArg₂ (· ||| ·) (shiftLeft_one_eq_ofNat m) (carryBit_eq_ofNat st 1)
    _ = BitVec.ofNat 8 (2 ^ 1 * m.toNat ||| flagNat st .c) := by rw [← BitVec.ofNat_or, Nat.one_mul, pow_one]
    _ = _ := by rw [← Nat.two_pow_add_eq_or_of_lt hcarry, pow_one]

/-- The old carry enters at bit 7, which the shift leaves clear, so ORing it in adds 128 (R193). -/
theorem ushiftRight_or_carry (st m : Byte) :
    (m >>> 1 ||| if getFlag st .c then 0x80 else 0x00) = BitVec.ofNat 8 (m.toNat / 2 + 128 * flagNat st .c) := by
  have hhalf : m.toNat / 2 < 2 ^ 7 := Nat.div_lt_of_lt_mul m.isLt
  calc _ = BitVec.ofNat 8 (m.toNat / 2) ||| BitVec.ofNat 8 (2 ^ 7 * flagNat st .c) :=
        congrArg₂ (· ||| ·) (ushiftRight_one_eq_ofNat m) (carryBit_eq_ofNat st 128)
    _ = BitVec.ofNat 8 (2 ^ 7 * flagNat st .c ||| m.toNat / 2) := by rw [← BitVec.ofNat_or, Nat.lor_comm]
    _ = _ := by rw [← Nat.two_pow_add_eq_or_of_lt hhalf, Nat.add_comm]

/-- Bit 7 of a byte, as a comparison. -/
theorem getLsbD_seven (m : Byte) : m.getLsbD 7 = decide (m.toNat ≥ 128) :=
  (BitVec.msb_eq_getLsbD_last m).symm.trans (BitVec.msb_eq_decide m)

/-- Bit 0 of a byte, as its parity. -/
theorem getLsbD_zero (m : Byte) : m.getLsbD 0 = decide (m.toNat % 2 = 1) :=
  Nat.testBit_zero m.toNat

theorem rolByte_eq (st m : Byte) :
    rolByte st m = ⟨BitVec.ofNat 8 (2 * m.toNat + flagNat st .c),
      cnzStatus st (decide (m.toNat ≥ 128)) (BitVec.ofNat 8 (2 * m.toNat + flagNat st .c))⟩ := by
  rw [rolByte, shiftLeft_or_carry, setCNZ_eq, getLsbD_seven]

theorem rorByte_eq (st m : Byte) :
    rorByte st m = ⟨BitVec.ofNat 8 (m.toNat / 2 + 128 * flagNat st .c),
      cnzStatus st (decide (m.toNat % 2 = 1)) (BitVec.ofNat 8 (m.toNat / 2 + 128 * flagNat st .c))⟩ := by
  rw [rorByte, ushiftRight_or_carry, setCNZ_eq, getLsbD_zero]

/-- Settles O39: ASL and LSR are shifts whose byte functions give the result and STATUS the statement writes out. -/
theorem shiftsByOneBit : Obligations.ShiftsByOneBit :=
  ⟨formsAre_of_listedForms (by decide) (by decide) (by decide),
    formsAre_of_listedForms (by decide) (by decide) (by decide), fun _ _ =>
    ⟨fun hop => exec_shift hop rfl rfl (aslByte_eq _ _), fun hop => exec_shift hop rfl rfl (lsrByte_eq _ _)⟩⟩

/-- Settles O40: ROL and ROR are shifts whose byte functions are the statement's integer formulas. -/
theorem rotatesThroughCarry : Obligations.RotatesThroughCarry :=
  ⟨formsAre_of_listedForms (by decide) (by decide) (by decide),
    formsAre_of_listedForms (by decide) (by decide) (by decide), fun _ _ =>
    ⟨fun hop => exec_shift hop rfl rfl (rolByte_eq _ _), fun hop => exec_shift hop rfl rfl (rorByte_eq _ _)⟩⟩

end Sys2Proof.Machine
end

section
/-! The flag instructions: the seven as one operation with a flag and a value, the encodings and the whole next state
(45_flag_instructions R200 to R206). -/

namespace Sys2Proof.Machine

/-- The operation of an instruction that writes one flag and does nothing else (45_flag_instructions). -/
def flagOperation (f : Flag) (on : Bool) : Operation := fun _ s => (s.setStatus (setFlag s.status f on), false)

/-- A flag instruction writes its flag on what the pulse leaves, which holds the STATUS of the state before. -/
theorem exec_flagOperation {i : Instr} {f : Flag} {on : Bool} (hbranch : branchTest i.entry.op = none)
    (heligible : eligible i.entry.op = false) (hf : operationOf i.entry.op = flagOperation f on) (s : State) :
    exec i s = .next { s.advanced i with status := setFlag s.status f on } := by
  rw [exec_of_not_eligible rfl hbranch heligible, hf]
  rfl

/-- Clearing a flag ANDs STATUS with the complement of its mask. -/
theorem exec_clearFlag {i : Instr} {f : Flag} (hbranch : branchTest i.entry.op = none)
    (heligible : eligible i.entry.op = false) (hf : operationOf i.entry.op = flagOperation f false) (s : State) :
    exec i s = .next { s.advanced i with status := s.status &&& ~~~ f.mask } :=
  setFlag_false s.status f ▸ exec_flagOperation hbranch heligible hf s

/-- Setting a flag ORs its mask into STATUS. -/
theorem exec_setFlag {i : Instr} {f : Flag} (hbranch : branchTest i.entry.op = none)
    (heligible : eligible i.entry.op = false) (hf : operationOf i.entry.op = flagOperation f true) (s : State) :
    exec i s = .next { s.advanced i with status := s.status ||| f.mask } :=
  setFlag_true s.status f ▸ exec_flagOperation hbranch heligible hf s

/-- Settles O41: four of the instructions clear their flag, three set it, each by the mask the statement writes out. -/
theorem flagInstructions : Obligations.FlagInstructions := by
  refine ⟨formsAre_of_listedForms_eq (by decide) rfl, formsAre_of_listedForms_eq (by decide) rfl,
    formsAre_of_listedForms_eq (by decide) rfl, formsAre_of_listedForms_eq (by decide) rfl,
    formsAre_of_listedForms_eq (by decide) rfl, formsAre_of_listedForms_eq (by decide) rfl,
    formsAre_of_listedForms_eq (by decide) rfl, fun s => ⟨?clc, ?cld, ?cli, ?clv, ?sec, ?sed, ?sei⟩⟩
  case clc => exact exec_clearFlag (f := .c) rfl rfl rfl s
  case cld => exact exec_clearFlag (f := .d) rfl rfl rfl s
  case cli => exact exec_clearFlag (f := .i) rfl rfl rfl s
  case clv => exact exec_clearFlag (f := .v) rfl rfl rfl s
  case sec => exact exec_setFlag (f := .c) rfl rfl rfl s
  case sed => exact exec_setFlag (f := .d) rfl rfl rfl s
  case sei => exact exec_setFlag (f := .i) rfl rfl rfl s

end Sys2Proof.Machine
end

section
/-! The stack instructions: a push undone by a pop, the encodings and the whole next state (46_stack R210 to R216). -/

namespace Sys2Proof.Machine

/-- A push writes its byte where SP pointed (46_stack R210). -/
theorem State.read_push_same (s : State) (v : Byte) : (s.push v).read (stackAddr s.sp) = v :=
  (writeChangesOneByte s (stackAddr s.sp) (stackAddr s.sp) v).trans (if_pos rfl)

/-- SP counts down and up again, wrapping at both ends of the page (46_stack R216). -/
theorem State.push_pop_sp (s : State) (v : Byte) : (s.push v).pop.1.sp = s.sp := by
  rw [State.pop_sp, State.push_sp, BitVec.sub_add_cancel]

/-- A pop right after a push reads at the address just written (46_stack R216). -/
theorem State.push_pop_value (s : State) (v : Byte) : (s.push v).pop.2 = v := by
  rw [State.pop_value, ← State.pop_sp, State.push_pop_sp, State.read_push_same]

/-- PHA is a push of A on what its pulse leaves (46_stack R212). -/
theorem exec_pha (s : State) : exec .pha s = .next ((s.advanced .pha).push s.a) :=
  exec_of_not_eligible rfl rfl rfl s

/-- PHP is a push of STATUS, with PHP_PUSH_OR, on what its pulse leaves (46_stack R213). -/
theorem exec_php (s : State) : exec .php s = .next ((s.advanced .php).push (s.status ||| phpPushOr)) :=
  exec_of_not_eligible rfl rfl rfl s

/-- PLA is a pop on what its pulse leaves, the byte going to A and its Z and N to STATUS (46_stack R214). -/
theorem exec_pla (s : State) :
    exec .pla s = .next { (s.advanced .pla).pop.1 with a := s.pop.2, status := nzStatus s.status s.pop.2 } := by
  rw [← setNZ_eq]
  exact exec_of_not_eligible rfl rfl rfl s

/-- PLP is a pop on what its pulse leaves, the byte going to STATUS (46_stack R215). -/
theorem exec_plp (s : State) : exec .plp s = .next { (s.advanced .plp).pop.1 with status := s.pop.2 } :=
  exec_of_not_eligible rfl rfl rfl s

/-- Settles O44: PLA pops, on what its pulse leaves, the byte that PHA has pushed. -/
theorem pushThenPullIsNetZero : Obligations.PushThenPullIsNetZero := by
  refine ⟨fun s v => ⟨s.push_pop_value v, s.push_pop_sp v⟩, fun s t u hpha hpla => ?_⟩
  cases (exec_pha s).symm.trans hpha
  cases (exec_pla _).symm.trans hpla
  exact ⟨(s.advanced .pha).push_pop_value s.a, (s.advanced .pha).push_pop_sp s.a⟩

/-- Settles O42: the pushes as records over what the pulse leaves. -/
theorem pushInstructions : Obligations.PushInstructions :=
  ⟨formsAre_of_listedForms_eq (by decide) rfl, formsAre_of_listedForms_eq (by decide) rfl, phpPushOr_cases,
    fun s => ⟨exec_pha s, exec_php s⟩⟩

/-- Settles O43: the pops as records over what the pulse leaves. -/
theorem pullInstructions : Obligations.PullInstructions :=
  ⟨formsAre_of_listedForms_eq (by decide) rfl, formsAre_of_listedForms_eq (by decide) rfl,
    fun s => ⟨exec_pla s, exec_plp s⟩⟩

end Sys2Proof.Machine
end

section
/-! The host commands that run no instruction: the whole next state of reset, init, irq and nmi (60_exceptions R310 to
R312, 70_reset_and_hazards R400 to R403). -/

namespace Sys2Proof.Machine

/-- Settles O16: the command is taken off the list and resetCore runs, which reads the vector at 0xFFFC. -/
theorem resetCommand : Obligations.ResetCommand := fun _ _ hcons => step_cons hcons

/-- Settles O17: the reset inside `init` runs on the power-on state, whose memory is the bus. -/
theorem initCommand : Obligations.InitCommand := fun _ _ _ hcons => step_cons hcons

/-- Settles O18: an empty bus has 0x00 at the reset vector and everywhere else. -/
theorem resetStateIsInitOnAnEmptyBus : Obligations.ResetStateIsInitOnAnEmptyBus :=
  ⟨fun s hcons => initCommand s [] [] hcons, fun _ => rfl⟩

/-- Settles O20: a masked irq answers the state it is given, a taken one enters the handler. -/
theorem irqCommand : Obligations.IrqCommand := by
  intro s rest hcons
  rw [step_cons hcons]
  rcases State.irq_cases (s.setCommands rest) with ⟨hmasked, hirq⟩ | ⟨htaken, hirq⟩
  · exact congrArg Host.Outcome.next (hirq.trans (if_pos hmasked).symm)
  · exact congrArg Host.Outcome.next (hirq.trans (if_neg (Bool.eq_false_iff.mp htaken)).symm)

/-- Settles O21: an nmi enters the handler through NMI_VECTOR without a look at I. -/
theorem nmiCommand : Obligations.NmiCommand :=
  ⟨nmiVector_cases, fun s rest hcons =>
    (step_cons hcons).trans (congrArg Host.Outcome.next (s.setCommands rest).nmi_eq)⟩

end Sys2Proof.Machine
end

section
/-! Branches, jumps, calls and returns: the encodings, the whole next state, and a return right after its call
(47_control_transfer R220 to R231). -/

namespace Sys2Proof.Machine

/-- A branch instruction is `Branch` on what its pulse leaves, with the condition of the branch table (R221 to R228). -/
theorem exec_branch {i : Instr} {f : Flag} {want : Bool} (htest : branchTest i.entry.op = some (f, want)) (s : State) :
    exec i s = .next (branch (getFlag s.status f == want) (s.advanced i)).1 := by
  have hcount (e : Byte) : i.entry.base + e - 1 = i.entry.base - 1 + e := by bv_omega
  rw [exec_eq_pulse, pulse_eq, operationOf_branch htest, branch_eq, branch_eq, ← resolved_setCycles]
  simp only [Bool.and_false, Bool.false_eq_true, if_false, add_zero]
  exact congrArg (fun c => Host.Outcome.next (State.setCycles _ c)) (hcount _)

/-- The pulse of a branch leaves PC at the next instruction (R220). -/
theorem advanced_pc_of_rel {i : Instr} {o : Byte} (hrel : i.entry.mode = .rel o) (s : State) :
    (s.advanced i).pc = s.pc + 2 := by
  rw [State.advanced, Instr.size, encode, hrel]
  rfl

theorem advanced_addrRel_of_rel {i : Instr} {o : Byte} (hrel : i.entry.mode = .rel o) (s : State) :
    (s.advanced i).addrRel = sext16 o := by
  rw [State.advanced, hrel]
  rfl

/-- A branch has two pulses before those its being taken adds, and the first of them is over (30_encoding R73). -/
theorem advanced_cycles_of_branch {i : Instr} (h : branchTest i.entry.op ≠ none) (s : State) :
    (s.advanced i).cycles = 1 := by
  obtain ⟨-, -, -, hbase⟩ := entry_base i
  have htwo : i.entry.base = 2 := BitVec.eq_of_toNat_eq (hbase h)
  rw [State.advanced, htwo]
  rfl

/-- Settles O45: on what the pulse leaves, `Branch` loads the target and counts a pulse for it and one for its page. -/
theorem branches : Obligations.Branches := by
  refine ⟨formsAre_of_listedForms_eq (by decide) rfl, formsAre_of_listedForms_eq (by decide) rfl,
    formsAre_of_listedForms_eq (by decide) rfl, formsAre_of_listedForms_eq (by decide) rfl,
    formsAre_of_listedForms_eq (by decide) rfl, formsAre_of_listedForms_eq (by decide) rfl,
    formsAre_of_listedForms_eq (by decide) rfl, formsAre_of_listedForms_eq (by decide) rfl, ?_⟩
  intro i s o f want htest hrel next target
  have hbranch : branchTest i.entry.op ≠ none := by simp [htest]
  have hnext : (s.advanced i).pc = next := advanced_pc_of_rel hrel s
  have htarget : (s.advanced i).pc + (s.advanced i).addrRel = target := by
    rw [hnext, advanced_addrRel_of_rel hrel]
  rw [exec_branch htest, branch_eq, htarget, hnext, advanced_cycles_of_branch hbranch]
  simp only [beq_iff_eq, hiByte_eq_iff]
  by_cases htaken : getFlag s.status f = want
  · simp only [if_pos htaken]
    by_cases hpage : target.toNat / 256 = next.toNat / 256
    · rw [if_pos hpage, if_pos hpage]
      rfl
    · rw [if_neg hpage, if_neg hpage]
      rfl
  · simp only [if_neg htaken]
    rfl

/-- JMP has the modes ABS and IND, so Resolve leaves the effective address of the state before (R229). -/
theorem advanced_addrAbs_of_jmp {i : Instr} (hop : i.entry.op = .jmp) (s : State) :
    (s.advanced i).addrAbs = s.ea i.entry.mode :=
  ea_setPc s (s.pc + 1) i.entry.mode fun v => by
    cases i <;> cases hop <;> exact Mode.noConfusion

/-- Settles O46: opJmp on what the pulse leaves loads `addr_abs`. -/
theorem jmpLoadsPc : Obligations.JmpLoadsPc := by
  refine ⟨formsAre_of_listedForms_eq (by decide) rfl, fun i s hop => ?_⟩
  rw [← advanced_addrAbs_of_jmp hop]
  exact exec_of_not_eligible hop rfl rfl s

/-- JSR is a push of the address of its last byte, then a jump, on what its pulse leaves (R230). -/
theorem exec_jsr (w : Word) (s : State) :
    exec (.jsr w) s = .next (((s.advanced (.jsr w)).pushWord (s.pc + 2)).setPc w) := by
  have hlast : (s.advanced (.jsr w)).pc - 1 = s.pc + 2 := add_sub_assoc s.pc 3 1
  rw [← hlast]
  exact exec_of_not_eligible rfl rfl rfl s

/-- RTS is a pop of a word on what its pulse leaves, and a jump to the address after it (R231). -/
theorem exec_rts (s : State) :
    exec .rts s = .next { s.advanced .rts with sp := s.popWord.1.sp, pc := s.popWord.2 + 1 } :=
  exec_of_not_eligible rfl rfl rfl s

/-- Settles O47: the push and the jump as a record over what the pulse leaves. -/
theorem jsrPushesAndJumps : Obligations.JsrPushesAndJumps := by
  refine ⟨formsAre_of_listedForms_eq (by decide) rfl, fun s w => ?_⟩
  rw [exec_jsr, State.pushWord_eq]
  rfl

/-- Settles O48: the pop and the jump as a record over what the pulse leaves. -/
theorem rtsReturns : Obligations.RtsReturns := by
  refine ⟨formsAre_of_listedForms_eq (by decide) rfl, fun s => ?_⟩
  rw [exec_rts, State.popWord_eq]

/-- Popping a word right after pushing one gives it back, wherever SP wraps; only memory and SP matter (46_stack
R216). -/
theorem State.popWord_of_pushWord {s t : State} {w : Word} (hmem : t.mem = (s.pushWord w).mem)
    (hsp : t.sp = (s.pushWord w).sp) : t.popWord.2 = w ∧ t.popWord.1.sp = s.sp := by
  rw [State.pushWord_eq] at hmem hsp
  have hhigh : t.sp + 2 = s.sp := by rw [hsp, BitVec.sub_add_cancel]
  have hlow : t.sp + 1 = s.sp - 1 := by bv_omega
  have hne : s.sp ≠ s.sp - 1 := by bv_omega
  rw [State.popWord_eq]
  simp only [State.read, hhigh, hlow, hmem, Memory.read_write, stackAddr_inj, hne, if_true, if_false,
    wordOf_hiByte_loByte, and_self]

/-- Settles O49: RTS pops the word that JSR has pushed, and adds 1. -/
theorem rtsAfterJsr : Obligations.RtsAfterJsr := by
  intro s t u w hjsr hrts
  have ht := Host.Outcome.next.inj ((exec_jsr w s).symm.trans hjsr)
  obtain ⟨hpc, hsp⟩ : t.popWord.2 = s.pc + 2 ∧ t.popWord.1.sp = s.sp :=
    State.popWord_of_pushWord (s := s.advanced (.jsr w)) (ht ▸ rfl) (ht ▸ rfl)
  cases (exec_rts t).symm.trans hrts
  exact ⟨(congrArg (· + 1) hpc).trans (add_assoc s.pc 2 1), hsp⟩

end Sys2Proof.Machine
end

section
/-! BRK and RTI: the encodings, the whole next state, and RTI right after BRK, a taken irq or an nmi (48_system R240,
R241, 60_exceptions R320, R321). -/

namespace Sys2Proof.Machine

/-- BRK enters the handler from the address after its padding byte, on what its pulse leaves (48_system R240). -/
theorem exec_brk (s : State) : exec .brk s = .next ((s.advanced .brk).setPc (s.pc + 2)).brkEntry := by
  have hpadding : (s.advanced .brk).pc + 1 = s.pc + 2 := add_assoc s.pc 1 1
  rw [← hpadding]
  exact exec_of_not_eligible rfl rfl rfl s

/-- RTI is the return from an exception on what its pulse leaves (48_system R241). -/
theorem exec_rti (s : State) : exec .rti s = .next (s.advanced .rti).returnFromException :=
  exec_of_not_eligible rfl rfl rfl s

/-- Settles O50: the entry as a record over what the pulse leaves. -/
theorem brkEntersTheHandler : Obligations.BrkEntersTheHandler := by
  refine ⟨formsAre_of_listedForms_eq (by decide) rfl, fun s => ?_⟩
  rw [exec_brk, State.brkEntry_eq]
  rfl

/-- Settles O51: the return as a record over what the pulse leaves. -/
theorem rtiReturns : Obligations.RtiReturns := by
  refine ⟨formsAre_of_listedForms_eq (by decide) rfl, fun s => ?_⟩
  rw [exec_rti, State.returnFromException_eq]
  rfl

/-- RTI on the frame an exception has pushed returns to the state that was interrupted (60_exceptions R320). -/
theorem exec_rti_of_exceptionFrame {s t u : State} {pushed : Byte} (hmem : t.mem = exceptionFrame s pushed)
    (hsp : t.sp = s.sp - 3) (h : exec .rti t = .next u) :
    u.pc = s.pc ∧ u.sp = s.sp ∧ u.status = pushed &&& 0xCF := by
  obtain ⟨hstatus, hlow, hhigh⟩ := read_exceptionFrame_stack s pushed
  have hread (addr : Word) : t.read addr = Memory.read (exceptionFrame s pushed) addr :=
    congrArg (Memory.read · addr) hmem
  have hsp1 : t.sp + 1 = s.sp - 2 := by rw [hsp]; bv_omega
  have hsp2 : t.sp + 2 = s.sp - 1 := by rw [hsp]; bv_omega
  have hsp3 : t.sp + 3 = s.sp := by rw [hsp]; exact BitVec.sub_add_cancel ..
  have hrti := (rtiReturns.2 t).symm.trans h
  rw [hread, hread, hread, hsp1, hsp2, hsp3, hstatus, hlow, hhigh, wordOf_hiByte_loByte] at hrti
  cases hrti
  exact ⟨rfl, rfl, rfl⟩

/-- Settles O52: BRK leaves an exception's frame with the address after the padding byte. -/
theorem rtiAfterBrk : Obligations.RtiAfterBrk := by
  intro s t u hbrk hrti
  have ht := (exec_brk s).symm.trans hbrk
  rw [State.brkEntry_eq] at ht
  cases ht
  have hmask : (s.status ||| 0x30) &&& 0xCF = s.status &&& 0xCF := by
    refine byte_ext fun k hk => ?_
    interval_cases k <;> simp
  rw [← hmask]
  exact exec_rti_of_exceptionFrame (s := (s.advanced .brk).setPc (s.pc + 2)) rfl rfl hrti

/-- A taken irq and an nmi push the same frame: the PC interrupted, and STATUS with B clear, U and I set (60_exceptions
R311, R312). -/
theorem step_exceptionFrame {s t : State} {rest : List Command}
    (h : (s.commands = .irq :: rest ∧ getFlag s.status .i = false) ∨ s.commands = .nmi :: rest)
    (hstep : step s = .next t) :
    t.mem = exceptionFrame s ((s.status &&& 0xEF) ||| 0x24) ∧ t.sp = s.sp - 3 := by
  rcases h with ⟨hirq, htaken⟩ | hnmi
  · have ht := (irqCommand s rest hirq).symm.trans hstep
    simp only [htaken, Bool.false_eq_true, if_false] at ht
    cases ht
    exact ⟨rfl, rfl⟩
  · cases (nmiCommand.2 s rest hnmi).symm.trans hstep
    exact ⟨rfl, rfl⟩

/-- Settles O22: RTI returns on the frame the interrupt pushed, whose STATUS has I set, so a further irq is masked. -/
theorem rtiAfterInterrupt : Obligations.RtiAfterInterrupt := by
  intro s t u rest hcommand hstep hrti
  obtain ⟨hmem, hsp⟩ := step_exceptionFrame hcommand hstep
  obtain ⟨hpc, husp, hstatus⟩ := exec_rti_of_exceptionFrame hmem hsp hrti
  have hmask : ((s.status &&& 0xEF) ||| 0x24) &&& 0xCF = (s.status &&& 0xCF) ||| 0x04 := by
    refine byte_ext fun k hk => ?_
    interval_cases k <;> simp
  rw [hmask] at hstatus
  have hset : getFlag u.status .i = true := by simp [hstatus, getFlag, Flag.bit]
  exact ⟨hpc, husp, hstatus, if_pos hset⟩

end Sys2Proof.Machine
end
